-- ==== Sys2Proof/Word.lean ====
section
/-! DEFINITION. The bit-vector types of the register window. -/

namespace Sys2Proof

/-- The contents of one 32-bit register or one command word (10_state.md R20, 30_encoding.md R81). -/
abbrev Word := BitVec 32

/-- One byte lane of the bus (20_memory.md R64). -/
abbrev Byte := BitVec 8

end Sys2Proof
end

