-- ==== Sys2Proof/Syntax.lean ====
section
/-! DEFINITION. The nine commands of 30_encoding.md R82, one constructor per row of spec/opcode_table.json. -/

namespace Sys2Proof

/-- A command. It carries no operand: commands read the input registers (30_encoding.md R83). -/
inductive Instr
  /-- NOP (43_control.md R161). -/
  | nop
  /-- TX_EVAL (40_tx_tracker.md R106). -/
  | txEval
  /-- TX_FREE_AT (40_tx_tracker.md R112). -/
  | txFreeAt
  /-- TX_INFL_AT (40_tx_tracker.md R116). -/
  | txInflAt
  /-- RX_EVAL (41_rx_tracker.md R136). -/
  | rxEval
  /-- TX_DESC_ADDR (42_descriptor_address.md R152). -/
  | txDescAddr
  /-- RX_DESC_ADDR (42_descriptor_address.md R154). -/
  | rxDescAddr
  /-- CLR_WARN (43_control.md R162). -/
  | clrWarn
  /-- SRST (43_control.md R163). -/
  | srst
deriving DecidableEq, Repr

end Sys2Proof
end

