-- ==== Sys2Proof/Decode.lean ====
section
/-! DEFINITION. The command-word format `CMDW` (30_encoding.md R81), the total decoder (R80, R84, R85) and the encoder
(R82). -/

namespace Sys2Proof

/-- `OP`, bits 3:0 of a command word (30_encoding.md R81). -/
def opField (w : Word) : BitVec 4 := w.extractLsb' 0 4

/-- `RSVD`, bits 31:4 of a command word (30_encoding.md R81). -/
def rsvdField (w : Word) : BitVec 28 := w.extractLsb' 4 28

/-- Why a word is not a command (30_encoding.md R84). -/
inductive DecodeError
  /-- A nonzero bit in `w[31:4]`: ILLEGAL_CMD with WHICH = 1. -/
  | reservedBits
  /-- `OP` in 0x8 to 0xE: ILLEGAL_CMD with WHICH = 0. -/
  | reservedOp
deriving DecidableEq, Repr

/-- The WHICH bit of ILLEGAL_CMD (30_encoding.md R84, 60_exceptions.md R171). -/
def illegalWhich : DecodeError → Bool
  | .reservedBits => true
  | .reservedOp => false

/-- The decoder, total on every 32-bit word: the reserved bits are tested before `OP` (30_encoding.md R80, R85). -/
def decode (w : Word) : Except DecodeError Instr :=
  if rsvdField w ≠ 0#28 then .error .reservedBits
  else match (opField w).toNat with
    | 0x0 => .ok .nop
    | 0x1 => .ok .txEval
    | 0x2 => .ok .txFreeAt
    | 0x3 => .ok .txInflAt
    | 0x4 => .ok .rxEval
    | 0x5 => .ok .txDescAddr
    | 0x6 => .ok .rxDescAddr
    | 0x7 => .ok .clrWarn
    | 0xF => .ok .srst
    | _ => .error .reservedOp

/-- The command word of each command (30_encoding.md R82). -/
def encode : Instr → Word
  | .nop => 0x00000000#32
  | .txEval => 0x00000001#32
  | .txFreeAt => 0x00000002#32
  | .txInflAt => 0x00000003#32
  | .rxEval => 0x00000004#32
  | .txDescAddr => 0x00000005#32
  | .rxDescAddr => 0x00000006#32
  | .clrWarn => 0x00000007#32
  | .srst => 0x0000000F#32

/-- The word an opcode-table row of `nbits` bits stands for: its bits numbered from the least significant, every bit
above them 0. One write to `CMD` carries the whole word (30_encoding.md R81). -/
def tableWord (nbits w : Nat) : Word := BitVec.ofNat 32 (w % 2 ^ nbits)

/-- The command the decoder reads from a table word. A word longer than 32 bits is no command (30_encoding.md R85;
log 15). -/
def decodeTableWord (nbits w : Nat) : Option Instr :=
  if 32 < nbits then none
  else match decode (tableWord nbits w) with
    | .ok i => some i
    | .error _ => none

end Sys2Proof
end

