-- ==== Sys2Proof/Config.lean ====
section
/-! DEFINITION. The implementation parameters of one block instance (00_scope.md R5 to R9). -/

namespace Sys2Proof

/-- `PTR_W`, the one width of every DMA byte address (00_scope.md R7). -/
inductive PtrWidth
  | w32
  | w64
deriving DecidableEq, Repr

/-- `PTR_W` as a number of bits. -/
def PtrWidth.bits : PtrWidth → Nat
  | .w32 => 32
  | .w64 => 64

/-- The five parameters, the only values that change from one instance to another (00_scope.md, section 3).
Their ranges are checked by `Config.wf`. -/
structure Config where
  /-- `N_TX`, the TX ring capacity (R5). -/
  nTx : Nat
  /-- `N_RX`, the RX ring capacity (R6). -/
  nRx : Nat
  /-- `PTR_W` (R7). -/
  ptrW : PtrWidth
  /-- `DESC_SIZE`, the descriptor size in bytes (R8). -/
  descSize : Nat
  /-- `BLOCK_BASE`, the byte address of the register window (R9). -/
  blockBase : Nat
deriving DecidableEq, Repr

/-- DESIGN CHOICE (log 2), unsafe for a claim that rests on it: the instance `State.reset` names. `N_TX`, `N_RX`,
`PTR_W` and `DESC_SIZE` are the conventions of 95_test_vectors.md; the spec gives no `BLOCK_BASE`. -/
def Config.ofVectors : Config :=
  { nTx := 10, nRx := 8, ptrW := .w32, descSize := 16, blockBase := 0 }

end Sys2Proof
end

