-- ==== Sys2Proof/Machine/State.lean ====
section
/-! DEFINITION. The state: the spec's record of one block instance (10_state.md R20), its parameters, and the host's
side of the port. -/

namespace Sys2Proof.Machine

/-- "The whole state of one block instance is this record" (10_state.md R20): these 31 fields and no other. -/
structure Block where
  -- Input registers, host-writable.
  /-- `ARG` (R41). -/
  arg : Word
  /-- `TX_CUR`, the driver's `cur_tx` (R26). -/
  txCur : Word
  /-- `TX_DIRTY`, the driver's `dirty_tx` (R26). -/
  txDirty : Word
  /-- `TX_FREE`, the driver's `free_desc_cnt` (R26). -/
  txFree : Word
  /-- `TX_QUEUED`, the driver's `tx_pkt_queued` (R26). -/
  txQueued : Word
  /-- `TX_BASE_LO` (R25). -/
  txBaseLo : Word
  /-- `TX_BASE_HI` (R25). -/
  txBaseHi : Word
  /-- `RX_CUR`, the driver's `cur_rx` (R42). -/
  rxCur : Word
  /-- `RX_HEAD_LO` (R25). -/
  rxHeadLo : Word
  /-- `RX_HEAD_HI` (R25). -/
  rxHeadHi : Word
  /-- `RX_TAIL_LO` (R25). -/
  rxTailLo : Word
  /-- `RX_TAIL_HI` (R25). -/
  rxTailHi : Word
  /-- `RX_BASE_LO` (R25). -/
  rxBaseLo : Word
  /-- `RX_BASE_HI` (R25). -/
  rxBaseHi : Word
  -- Result registers, read-only to the host.
  /-- `TX_RES` (R36). -/
  txRes : Word
  /-- `TX_FREE_CNT` (R37). -/
  txFreeCnt : Word
  /-- `TX_INFL_CNT` (R37). -/
  txInflCnt : Word
  /-- `RX_RES` (R38). -/
  rxRes : Word
  /-- `RX_HEAD_IDX` (R39). -/
  rxHeadIdx : Word
  /-- `RX_TAIL_IDX` (R39). -/
  rxTailIdx : Word
  /-- `RX_DEV_CNT` (R39). -/
  rxDevCnt : Word
  /-- `RX_DRV_CNT` (R39). -/
  rxDrvCnt : Word
  /-- `RESULT_LO` (R40). -/
  resultLo : Word
  /-- `RESULT_HI` (R40). -/
  resultHi : Word
  -- Status and error state.
  /-- `HALT` (R30). -/
  halt : Bool
  /-- `TX_VALID` (R30). -/
  txValid : Bool
  /-- `RX_VALID` (R30). -/
  rxValid : Bool
  /-- `WARN_CNT` (R34). -/
  warnCnt : Word
  /-- `ERR_INFO` (R35). -/
  errInfo : Word
  -- The hidden TX snapshot latch.
  /-- `S_CUR` (R50). -/
  sCur : Word
  /-- `S_DIRTY` (R50). -/
  sDirty : Word
deriving DecidableEq, Repr

/-- Every state field at its reset value (10_state.md R23, 70_reset_and_hazards.md R200). -/
def Block.reset : Block :=
  { arg := 0#32, txCur := 0#32, txDirty := 0#32, txFree := 0#32, txQueued := 0#32,
    txBaseLo := 0#32, txBaseHi := 0#32, rxCur := 0#32,
    rxHeadLo := 0#32, rxHeadHi := 0#32, rxTailLo := 0#32, rxTailHi := 0#32, rxBaseLo := 0#32, rxBaseHi := 0#32,
    txRes := 0#32, txFreeCnt := 0#32, txInflCnt := 0#32,
    rxRes := 0#32, rxHeadIdx := 0#32, rxTailIdx := 0#32, rxDevCnt := 0#32, rxDrvCnt := 0#32,
    resultLo := 0#32, resultHi := 0#32,
    halt := false, txValid := false, rxValid := false, warnCnt := 0#32, errInfo := 0#32,
    sCur := 0#32, sDirty := 0#32 }

/-- One host bus access: `MemRead(addr, n)` and `MemWrite(addr, n, v)` of 00_scope.md R13. `addr` is a host byte address
and `width` is `n` in bytes. Only a 4-byte write stores its value, so one 32-bit value is enough (20_memory.md R65;
log 16). -/
inductive Access
  | read (addr width : Nat)
  | write (addr width : Nat) (value : Word)
deriving DecidableEq, Repr

/-- What can happen at the block next: a host access, or a hardware reset (70_reset_and_hazards.md R200; log 4). -/
inductive Event
  | access (a : Access)
  | hwReset
deriving DecidableEq, Repr

/-- What the port answered last (log 3): nothing yet, a completed write, or a completed read's value
(20_memory.md R62). -/
inductive Reply
  | none
  | stored
  | data (value : Word)
deriving DecidableEq, Repr

/-- One block instance and the host's side of its port. -/
structure State where
  /-- The parameters of the instance, which no step changes (00_scope.md R5 to R9; log 1). -/
  cfg : Config
  /-- The spec's state record (10_state.md R20). -/
  blk : Block
  /-- The MODEL's own: the events still to arrive at the port, in arrival order (20_memory.md R70; log 3). -/
  pending : List Event
  /-- The MODEL's own: what the last access answered to the host (log 3). -/
  reply : Reply
deriving DecidableEq, Repr

/-- Why a step ends in a fault. -/
inductive Fault
  /-- A bus error: an access that is not an aligned 32-bit access inside the window (20_memory.md R65). Raised by the
  port, never by a command; it carries the access it turned away. SAFE: the run stops where a host could go on. -/
  | busError (a : Access)
deriving DecidableEq, Repr

/-- Why a step has no meaning. -/
inductive Refusal
  /-- An instruction without a meaning yet. Raised by an arm of `exec` only; no arm raises it. SAFE: the run stops. -/
  | notModelled (mnemonic : String)
deriving DecidableEq, Repr

/-- The reset state of the instance with the parameters `cfg`, no access made yet. -/
def State.resetOf (cfg : Config) : State :=
  { cfg := cfg, blk := Block.reset, pending := [], reply := .none }

/-- The machine right after reset (70_reset_and_hazards.md R200), for the instance of log 2. -/
def State.reset : State := State.resetOf Config.ofVectors

end Sys2Proof.Machine
end

