-- ==== Sys2Proof/Machine/Flags.lean ====
section
/-! DEFINITION. The flag and status registers: the two CASE codes, the error codes, how `TX_RES`, `RX_RES`, `STATUS`,
`ERR_INFO` and `CAP_MISC` are assembled from their fields, and how a field is read back. A reserved bit is built as 0
(10_state.md R28). -/

namespace Sys2Proof.Machine

/-- `TX_RES.CASE` (10_state.md R36). -/
inductive TxCase
  | none
  | allFree
  | allInflight
  | mixed
deriving DecidableEq, Repr

/-- The two CASE bits of `TX_RES` (10_state.md R36). -/
def TxCase.code : TxCase → BitVec 2
  | .none => 0#2
  | .allFree => 1#2
  | .allInflight => 2#2
  | .mixed => 3#2

/-- `RX_RES.CASE` (10_state.md R38). -/
inductive RxCase
  | none
  | equal
  | headGtTail
  | headLtTail
deriving DecidableEq, Repr

/-- The two CASE bits of `RX_RES` (10_state.md R38). -/
def RxCase.code : RxCase → BitVec 2
  | .none => 0#2
  | .equal => 1#2
  | .headGtTail => 2#2
  | .headLtTail => 3#2

/-- The errors a Fatal records (60_exceptions.md R171). -/
inductive ErrCode
  | illegalCmd
  | txIdxRange
  | rxIdxRange
  | notEvaluated
  | listRange
  | descIdxRange
deriving DecidableEq, Repr

/-- The CODE byte of `ERR_INFO` (60_exceptions.md R171). -/
def ErrCode.byte : ErrCode → Byte
  | .illegalCmd => 0x01#8
  | .txIdxRange => 0x02#8
  | .rxIdxRange => 0x03#8
  | .notEvaluated => 0x04#8
  | .listRange => 0x05#8
  | .descIdxRange => 0x06#8

/-- `TX_RES` from its fields (10_state.md R36). -/
def txResWord (k : TxCase) (fwrap iwrap incons : Bool) : Word :=
  0#27 ++ BitVec.ofBool incons ++ BitVec.ofBool iwrap ++ BitVec.ofBool fwrap ++ k.code

/-- `TX_RES.CASE` of a stored `TX_RES` (10_state.md R36). -/
def txResCase (w : Word) : TxCase :=
  match (w.extractLsb' 0 2).toNat with
  | 1 => .allFree
  | 2 => .allInflight
  | 3 => .mixed
  | _ => .none

/-- `RX_RES` from its fields (10_state.md R38). -/
def rxResWord (k : RxCase) (hrem trem : Bool) : Word :=
  0#28 ++ BitVec.ofBool trem ++ BitVec.ofBool hrem ++ k.code

/-- `RX_RES.CASE` of a stored `RX_RES` (10_state.md R38). -/
def rxResCase (w : Word) : RxCase :=
  match (w.extractLsb' 0 2).toNat with
  | 1 => .equal
  | 2 => .headGtTail
  | 3 => .headLtTail
  | _ => .none

/-- `STATUS.WARN`, which has no storage of its own (10_state.md R30). -/
def warnFlag (b : Block) : Bool := decide (b.warnCnt ≠ 0#32)

/-- `STATUS`, assembled from the status bits (10_state.md R20, R30). -/
def statusWord (b : Block) : Word :=
  0#28 ++ BitVec.ofBool b.rxValid ++ BitVec.ofBool b.txValid ++ BitVec.ofBool (warnFlag b) ++ BitVec.ofBool b.halt

/-- `ERR_INFO` from its fields (10_state.md R35). -/
def errInfoWord (code : ErrCode) (op : BitVec 4) (which : Bool) : Word :=
  0#19 ++ BitVec.ofBool which ++ op ++ code.byte

/-- `CAP_MISC` (10_state.md R33). -/
def capMiscWord (c : Config) : Word :=
  0#15 ++ BitVec.ofBool (decide (c.ptrW = .w64)) ++ BitVec.ofNat 16 c.descSize

/-- The value of `WARN_CNT` after one `warn()`: it saturates (60_exceptions.md R180). -/
def warnCntSucc (w : Word) : Word := BitVec.ofNat 32 (min (w.toNat + 1) 0xFFFFFFFF)

end Sys2Proof.Machine
end

