-- ==== Sys2Proof/Machine/Operands.lean ====
section
/-! DEFINITION. The operands of the commands (30_encoding.md R83) and the modular arithmetic on them (00_scope.md R12). -/

namespace Sys2Proof.Machine

/-- `(a - b) mod m`, the Euclidean residue of a difference that may be negative (00_scope.md R12). -/
def subMod (a b m : Nat) : Nat := (((a : Int) - (b : Int)) % (m : Int)).toNat

/-- `(a + b) mod m` (00_scope.md R12). -/
def addMod (a b m : Nat) : Nat := (a + b) % m

/-- The four DMA pointers (10_state.md R25). -/
inductive Ptr
  | txBase
  | rxHead
  | rxTail
  | rxBase
deriving DecidableEq, Repr

/-- The `P_LO` register of a pointer (10_state.md R25). -/
def ptrLo (b : Block) : Ptr → Word
  | .txBase => b.txBaseLo
  | .rxHead => b.rxHeadLo
  | .rxTail => b.rxTailLo
  | .rxBase => b.rxBaseLo

/-- The `P_HI` register of a pointer (10_state.md R25). -/
def ptrHi (b : Block) : Ptr → Word
  | .txBase => b.txBaseHi
  | .rxHead => b.rxHeadHi
  | .rxTail => b.rxTailHi
  | .rxBase => b.rxBaseHi

/-- `ptr(P)`: `{P_HI, P_LO}` when `PTR_W = 64`, `P_LO` alone when `PTR_W = 32` (10_state.md R25). -/
def ptrValue (c : Config) (b : Block) (p : Ptr) : Nat :=
  match c.ptrW with
  | .w64 => (ptrHi b p ++ ptrLo b p).toNat
  | .w32 => (ptrLo b p).toNat

/-- `a -_W b` at the instance's `PTR_W` (00_scope.md R12). -/
def ptrSub (c : Config) (a b : Nat) : Nat := subMod a b (2 ^ c.ptrW.bits)

/-- `a +_W b` at the instance's `PTR_W` (00_scope.md R12). -/
def ptrAdd (c : Config) (a b : Nat) : Nat := addMod a b (2 ^ c.ptrW.bits)

end Sys2Proof.Machine
end

