-- ==== Sys2Proof/Machine/Ops.lean ====
section
/-! DEFINITION. The shared operations over the state record: storing each group of results, the warning, taking a Fatal
(60_exceptions.md R172, R173), the one way back from it (R175), and running one command's body (R170, R176). -/

namespace Sys2Proof.Machine

/-- The three outcomes of a step of this machine. -/
abbrev Result := Host.Outcome State Fault Refusal

/-- `raise Fatal(code, which)` (00_scope.md R13). -/
structure FatalError where
  code : ErrCode
  which : Bool
deriving DecidableEq, Repr

/-- The state with another block record; the parameters and the host's side stay. -/
def State.withBlk (s : State) (b : Block) : State := { s with blk := b }

/-- What a completed TX_EVAL writes (40_tx_tracker.md R106). -/
def Block.storeTx (b : Block) (c d res freeCnt inflCnt : Word) : Block :=
  { b with sCur := c, sDirty := d, txRes := res, txFreeCnt := freeCnt, txInflCnt := inflCnt, txValid := true }

/-- What a completed RX_EVAL writes, the warning apart (41_rx_tracker.md R136). -/
def Block.storeRx (b : Block) (headIdx tailIdx dev drv res : Word) : Block :=
  { b with rxHeadIdx := headIdx, rxTailIdx := tailIdx, rxDevCnt := dev, rxDrvCnt := drv, rxRes := res, rxValid := true }

/-- What a completed list read or slot-address command writes: `{RESULT_HI, RESULT_LO}` (10_state.md R40). -/
def Block.storeResult (b : Block) (lo hi : Word) : Block := { b with resultLo := lo, resultHi := hi }

/-- `warn()` (60_exceptions.md R180). -/
def Block.warn (b : Block) : Block := { b with warnCnt := warnCntSucc b.warnCnt }

/-- CLR_WARN's write (43_control.md R162). -/
def Block.clearWarn (b : Block) : Block := { b with warnCnt := 0#32 }

/-- FATAL ENTRY, the one way an error is taken: `HALT` and `ERR_INFO` are written, no other state changes, and there is
no vector and no saved program counter (60_exceptions.md R173). -/
def Block.enterFatal (b : Block) (op : BitVec 4) (e : FatalError) : Block :=
  { b with halt := true, errInfo := errInfoWord e.code op e.which }

/-- THE WAY BACK from a Fatal: a soft or hardware reset of the whole record (60_exceptions.md R175, 43_control.md R163,
70_reset_and_hazards.md R200). No return keeps the other state. -/
def softReset (s : State) : State := s.withBlk Block.reset

/-- Runs a command's body, every command's shape but SRST's: ignored while `HALT = 1` (60_exceptions.md R174); else it
completes with the body's writes, or takes its Fatal with none of them (R172, R173). `op` is the command's OP field. -/
def runBody (op : BitVec 4) (body : Config → Block → Except FatalError Block) (s : State) : Result :=
  if s.blk.halt then .next s
  else match body s.cfg s.blk with
    | .ok b => .next (s.withBlk b)
    | .error e => .next (s.withBlk (s.blk.enterFatal op e))

/-- A command word that is no command: ILLEGAL_CMD, or no effect while halted (30_encoding.md R80, R84; 60_exceptions.md
R171, R174). -/
def runIllegal (w : Word) (e : DecodeError) (s : State) : Result :=
  runBody (opField w) (fun _ _ => .error { code := .illegalCmd, which := illegalWhich e }) s

end Sys2Proof.Machine
end

