-- ==== Sys2Proof/Machine/Control.lean ====
section
/-! DEFINITION. The control commands (43_control.md): NOP, CLR_WARN, SRST. -/

namespace Sys2Proof.Machine

/-- NOP (R161): no effect. -/
def execNop (s : State) : Result := runBody (opField (encode .nop)) (fun _ b => .ok b) s

/-- CLR_WARN (R162). -/
def execClrWarn (s : State) : Result := runBody (opField (encode .clrWarn)) (fun _ b => .ok b.clearWarn) s

/-- SRST (R163): it runs whether or not `HALT = 1` (60_exceptions.md R175). -/
def execSrst (s : State) : Result := .next (softReset s)

end Sys2Proof.Machine
end

