-- ==== Sys2Proof/Machine/DescAddr.lean ====
section
/-! DEFINITION. The descriptor slot address (42_descriptor_address.md): the formula of R150, TX_DESC_ADDR and
RX_DESC_ADDR. -/

namespace Sys2Proof.Machine

/-- `SlotAddr(base, i)`: the product is exact, the sum wraps modulo `2^PTR_W` (R150). -/
def slotAddr (c : Config) (base i : Nat) : Nat := ptrAdd c base (i * c.descSize)

/-- `RESULT_LO` for an address (R152, R154). -/
def addrLo (a : Nat) : Word := BitVec.ofNat 32 a

/-- `RESULT_HI` for an address: bits 63:32 when `PTR_W = 64`, else 0 (R152, R154). -/
def addrHi (c : Config) (a : Nat) : Word :=
  match c.ptrW with
  | .w64 => BitVec.ofNat 32 (a / 2 ^ 32)
  | .w32 => 0#32

/-- The shared body of R152 and R154, for the ring of `n` slots whose base is the pointer `p`. -/
def descAddrBody (n : Nat) (p : Ptr) (c : Config) (b : Block) : Except FatalError Block :=
  if n ≤ b.arg.toNat then .error { code := .descIdxRange, which := false }
  else .ok (b.storeResult (addrLo (slotAddr c (ptrValue c b p) b.arg.toNat))
    (addrHi c (slotAddr c (ptrValue c b p) b.arg.toNat)))

/-- TX_DESC_ADDR (R152): it reads the live `TX_BASE`. -/
def execTxDescAddr (s : State) : Result :=
  runBody (opField (encode .txDescAddr)) (fun c b => descAddrBody c.nTx .txBase c b) s

/-- RX_DESC_ADDR (R154): it reads the live `RX_BASE`. -/
def execRxDescAddr (s : State) : Result :=
  runBody (opField (encode .rxDescAddr)) (fun c b => descAddrBody c.nRx .rxBase c b) s

end Sys2Proof.Machine
end

