-- ==== Sys2Proof/Machine/RxTracker.lean ====
section
/-! DEFINITION. The RX ring index tracker (41_rx_tracker.md): the pure functions of R131 to R135 and RX_EVAL. -/

namespace Sys2Proof.Machine

/-- The byte offset of a pointer from the RX base, at width `PTR_W` (R131). -/
def rxOffset (c : Config) (b : Block) (p : Ptr) : Nat := ptrSub c (ptrValue c b p) (ptrValue c b .rxBase)

/-- The index of a pointer: floor division of its offset by the descriptor size (R131). -/
def rxIndex (c : Config) (b : Block) (p : Ptr) : Nat := rxOffset c b p / c.descSize

/-- `HREM` or `TREM`: the pointer is not on a descriptor boundary (R132). -/
def rxRemainder (c : Config) (b : Block) (p : Ptr) : Bool := decide (rxOffset c b p % c.descSize ≠ 0)

/-- The case of `RxCount(hi, ti, N)`, tried in order (R134). -/
def rxCaseOf (hi ti : Nat) : RxCase :=
  if hi = ti then .equal
  else if ti < hi then .headGtTail
  else .headLtTail

/-- `dev` of `RxCount(hi, ti, N)`, for `hi, ti < N` (R134). The ambiguous case counts 0, the "empty" convention (R137). -/
def rxDevCount (hi ti n : Nat) : Nat :=
  if hi = ti then 0
  else if ti < hi then n - (hi - ti) + 1
  else ti - hi + 1

/-- `drv = N - dev` (R134). -/
def rxDrvCount (hi ti n : Nat) : Nat := n - rxDevCount hi ti n

/-- RX_EVAL's warning: one `warn()` in the EQUAL case, none otherwise (R136, R137). -/
def rxWarned (hi ti : Nat) (b : Block) : Block := if hi = ti then b.warn else b

/-- RX_EVAL's writes for in-range indices (R136). -/
def rxEvalStore (c : Config) (b : Block) : Block :=
  (rxWarned (rxIndex c b .rxHead) (rxIndex c b .rxTail) b).storeRx
    (BitVec.ofNat 32 (rxIndex c b .rxHead))
    (BitVec.ofNat 32 (rxIndex c b .rxTail))
    (BitVec.ofNat 32 (rxDevCount (rxIndex c b .rxHead) (rxIndex c b .rxTail) c.nRx))
    (BitVec.ofNat 32 (rxDrvCount (rxIndex c b .rxHead) (rxIndex c b .rxTail) c.nRx))
    (rxResWord (rxCaseOf (rxIndex c b .rxHead) (rxIndex c b .rxTail))
      (rxRemainder c b .rxHead) (rxRemainder c b .rxTail))

/-- RX_EVAL's pseudocode (R136): `head_idx` is checked before `tail_idx` (R133). -/
def rxEvalBody (c : Config) (b : Block) : Except FatalError Block :=
  if c.nRx ≤ rxIndex c b .rxHead then .error { code := .rxIdxRange, which := false }
  else if c.nRx ≤ rxIndex c b .rxTail then .error { code := .rxIdxRange, which := true }
  else .ok (rxEvalStore c b)

/-- RX_EVAL (R136). -/
def execRxEval (s : State) : Result := runBody (opField (encode .rxEval)) rxEvalBody s

end Sys2Proof.Machine
end

