-- ==== Sys2Proof/Machine/TxTracker.lean ====
section
/-! DEFINITION. The TX ring index tracker (40_tx_tracker.md): the pure functions of R101 to R105, their closed forms, and
TX_EVAL, TX_FREE_AT, TX_INFL_AT. -/

namespace Sys2Proof.Machine

/-! ## The ordered lists (R101, R102, R104) -/

/-- `walk(s, e, N)`, the forward walk of the ring from `s` up to but not including `e` (R101). -/
def walk (s e n : Nat) : List Nat :=
  if e < s then List.range' s (n - s) ++ List.range' 0 e
  else List.range' s (e - s)

/-- `full(s, N)`, every index of the ring once, in ring order from `s` (R102). -/
def fullRing (s n : Nat) : List Nat := (List.range n).map fun j => (s + j) % n

/-- `FreeList(c, d, k, N)` (R104). `none` stands for no TX_EVAL yet and has no list (log 9). -/
def freeList (c d : Nat) (k : TxCase) (n : Nat) : List Nat :=
  match k with
  | .none => []
  | .allFree => fullRing c n
  | .allInflight => []
  | .mixed => walk c d n

/-- `InflList(c, d, k, N)` (R104). `none` stands for no TX_EVAL yet and has no list (log 9). -/
def inflList (c d : Nat) (k : TxCase) (n : Nat) : List Nat :=
  match k with
  | .none => []
  | .allFree => []
  | .allInflight => fullRing d n
  | .mixed => walk d c n

/-! ## Their closed forms (R104), by which the commands compute (70_reset_and_hazards.md R216; log 10) -/

/-- The length of the free list (R104's table). -/
def freeLen (c d : Nat) (k : TxCase) (n : Nat) : Nat :=
  match k with
  | .none => 0
  | .allFree => n
  | .allInflight => 0
  | .mixed => subMod d c n

/-- The length of the in-flight list (R104's table). -/
def inflLen (c d : Nat) (k : TxCase) (n : Nat) : Nat :=
  match k with
  | .none => 0
  | .allFree => 0
  | .allInflight => n
  | .mixed => subMod c d n

/-- Entry `j` of a list that starts at slot `start` (R104's closed forms). -/
def ringEntry (start j n : Nat) : Nat := (start + j) % n

/-! ## The case split and the consistency check (R103, R105) -/

/-- `TxCase(f, q, N)`, the steps of the source's algorithm tried in order (R103). -/
def txCaseOf (f q n : Nat) : TxCase :=
  if f = n ∧ q = 0 then .allFree
  else if f = 0 ∧ q = n then .allInflight
  else .mixed

/-- `Consistent(c, d, f, q, N)` (R105); the sum does not overflow. -/
def txConsistent (c d f q n : Nat) : Bool :=
  decide (f + q = n ∧ ((c = d ∧ (f = 0 ∨ f = n)) ∨ (c ≠ d ∧ f = subMod d c n)))

/-- The `TX_RES` a TX_EVAL writes (R106). -/
def txEvalRes (c d f q n : Nat) : Word :=
  txResWord (txCaseOf f q n)
    (decide (txCaseOf f q n = .mixed ∧ d < c))
    (decide (txCaseOf f q n = .mixed ∧ c < d))
    (!txConsistent c d f q n)

/-! ## TX_EVAL (R106) -/

/-- TX_EVAL's writes for an in-range snapshot (R106). -/
def txEvalStore (n : Nat) (b : Block) : Block :=
  b.storeTx b.txCur b.txDirty
    (txEvalRes b.txCur.toNat b.txDirty.toNat b.txFree.toNat b.txQueued.toNat n)
    (BitVec.ofNat 32 (freeLen b.txCur.toNat b.txDirty.toNat (txCaseOf b.txFree.toNat b.txQueued.toNat n) n))
    (BitVec.ofNat 32 (inflLen b.txCur.toNat b.txDirty.toNat (txCaseOf b.txFree.toNat b.txQueued.toNat n) n))

/-- TX_EVAL's pseudocode (R106): `cur_tx` is checked before `dirty_tx`. -/
def txEvalBody (c : Config) (b : Block) : Except FatalError Block :=
  if c.nTx ≤ b.txCur.toNat then .error { code := .txIdxRange, which := false }
  else if c.nTx ≤ b.txDirty.toNat then .error { code := .txIdxRange, which := true }
  else .ok (txEvalStore c.nTx b)

/-- TX_EVAL (R106). -/
def execTxEval (s : State) : Result := runBody (opField (encode .txEval)) txEvalBody s

/-! ## The list reads (R112, R116) -/

/-- One list read: the list has `len` entries and starts at slot `start`; `ARG` is the position, and it is not taken
modulo the length (R112, R116). -/
def listReadBody (start len n : Nat) (b : Block) : Except FatalError Block :=
  if b.txValid = false then .error { code := .notEvaluated, which := false }
  else if len ≤ b.arg.toNat then .error { code := .listRange, which := false }
  else .ok (b.storeResult (BitVec.ofNat 32 (ringEntry start b.arg.toNat n)) 0#32)

/-- TX_FREE_AT's pseudocode (R112), on the latch and not on the live inputs (10_state.md R50). -/
def txFreeAtBody (c : Config) (b : Block) : Except FatalError Block :=
  listReadBody b.sCur.toNat (freeLen b.sCur.toNat b.sDirty.toNat (txResCase b.txRes) c.nTx) c.nTx b

/-- TX_FREE_AT (R112). -/
def execTxFreeAt (s : State) : Result := runBody (opField (encode .txFreeAt)) txFreeAtBody s

/-- TX_INFL_AT's pseudocode (R116), on the latch and not on the live inputs (10_state.md R50). -/
def txInflAtBody (c : Config) (b : Block) : Except FatalError Block :=
  listReadBody b.sDirty.toNat (inflLen b.sCur.toNat b.sDirty.toNat (txResCase b.txRes) c.nTx) c.nTx b

/-- TX_INFL_AT (R116). -/
def execTxInflAt (s : State) : Result := runBody (opField (encode .txInflAt)) txInflAtBody s

end Sys2Proof.Machine
end

