-- ==== Sys2Proof/Machine/Dispatch.lean ====
section
/-! DEFINITION. The meaning of each command: one arm per constructor of `Instr`, one direct call each. -/

namespace Sys2Proof.Machine

def exec (i : Instr) (s : State) : Host.Outcome State Fault Refusal :=
  match i with
  | .nop => Sys2Proof.Machine.execNop s
  | .txEval => Sys2Proof.Machine.execTxEval s
  | .txFreeAt => Sys2Proof.Machine.execTxFreeAt s
  | .txInflAt => Sys2Proof.Machine.execTxInflAt s
  | .rxEval => Sys2Proof.Machine.execRxEval s
  | .txDescAddr => Sys2Proof.Machine.execTxDescAddr s
  | .rxDescAddr => Sys2Proof.Machine.execRxDescAddr s
  | .clrWarn => Sys2Proof.Machine.execClrWarn s
  | .srst => Sys2Proof.Machine.execSrst s

end Sys2Proof.Machine
end

