-- ==== Sys2Proof/Machine/RegMap.lean ====
section
/-! DEFINITION. The register map of 10_state.md R23: offsets, access codes, and what a host read returns and a plain host
write stores. -/

namespace Sys2Proof.Machine

/-- The registers that are not reserved (10_state.md R23). -/
inductive Reg
  | cmd | status | capNtx | capNrx | capMisc | warnCnt | errInfo | arg
  | txCur | txDirty | txFree | txQueued | txBaseLo | txBaseHi
  | rxCur | rxHeadLo | rxHeadHi | rxTailLo | rxTailHi | rxBaseLo | rxBaseHi
  | txRes | txFreeCnt | txInflCnt
  | rxRes | rxHeadIdx | rxTailIdx | rxDevCnt | rxDrvCnt
  | resultLo | resultHi
deriving DecidableEq, Repr

/-- The access codes of 10_state.md R23. -/
inductive AccessCode
  | ro
  | rw
  | wo
  | rw64
deriving DecidableEq, Repr

/-- The Offset and Access columns of the table of 10_state.md R23, row by row. -/
def regTable : List (Nat × Reg × AccessCode) :=
  [ (0x00, .cmd, .wo), (0x04, .status, .ro), (0x08, .capNtx, .ro), (0x0C, .capNrx, .ro),
    (0x10, .capMisc, .ro), (0x14, .warnCnt, .ro), (0x18, .errInfo, .ro), (0x1C, .arg, .rw),
    (0x20, .txCur, .rw), (0x24, .txDirty, .rw), (0x28, .txFree, .rw), (0x2C, .txQueued, .rw),
    (0x30, .txBaseLo, .rw), (0x34, .txBaseHi, .rw64), (0x40, .rxCur, .rw),
    (0x48, .rxHeadLo, .rw), (0x4C, .rxHeadHi, .rw64), (0x50, .rxTailLo, .rw), (0x54, .rxTailHi, .rw64),
    (0x58, .rxBaseLo, .rw), (0x5C, .rxBaseHi, .rw64),
    (0x80, .txRes, .ro), (0x84, .txFreeCnt, .ro), (0x88, .txInflCnt, .ro),
    (0x90, .rxRes, .ro), (0x94, .rxHeadIdx, .ro), (0x98, .rxTailIdx, .ro), (0x9C, .rxDevCnt, .ro),
    (0xA0, .rxDrvCnt, .ro), (0xA8, .resultLo, .ro), (0xAC, .resultHi, .ro) ]

/-- The register at a window offset; none at a reserved offset (10_state.md R23, R24). -/
def regAt (off : Nat) : Option (Reg × AccessCode) := regTable.lookup off

/-- The window offset of a register, `off(reg)` of 30_encoding.md R86. -/
def regOffset (r : Reg) : Nat :=
  match regTable.find? (fun row => decide (row.2.1 = r)) with
  | some row => row.1
  | none => 0

/-- What an RW64 register reads as: 0 when `PTR_W = 32` (10_state.md R23, R25). -/
def rw64Read (c : Config) (w : Word) : Word :=
  match c.ptrW with
  | .w64 => w
  | .w32 => 0#32

/-- The value of a register to a host read (10_state.md R29 to R42). -/
def readReg (c : Config) (b : Block) : Reg → Word
  | .cmd => 0#32
  | .status => statusWord b
  | .capNtx => BitVec.ofNat 32 c.nTx
  | .capNrx => BitVec.ofNat 32 c.nRx
  | .capMisc => capMiscWord c
  | .warnCnt => b.warnCnt
  | .errInfo => b.errInfo
  | .arg => b.arg
  | .txCur => b.txCur
  | .txDirty => b.txDirty
  | .txFree => b.txFree
  | .txQueued => b.txQueued
  | .txBaseLo => b.txBaseLo
  | .txBaseHi => rw64Read c b.txBaseHi
  | .rxCur => b.rxCur
  | .rxHeadLo => b.rxHeadLo
  | .rxHeadHi => rw64Read c b.rxHeadHi
  | .rxTailLo => b.rxTailLo
  | .rxTailHi => rw64Read c b.rxTailHi
  | .rxBaseLo => b.rxBaseLo
  | .rxBaseHi => rw64Read c b.rxBaseHi
  | .txRes => b.txRes
  | .txFreeCnt => b.txFreeCnt
  | .txInflCnt => b.txInflCnt
  | .rxRes => b.rxRes
  | .rxHeadIdx => b.rxHeadIdx
  | .rxTailIdx => b.rxTailIdx
  | .rxDevCnt => b.rxDevCnt
  | .rxDrvCnt => b.rxDrvCnt
  | .resultLo => b.resultLo
  | .resultHi => b.resultHi

/-- The value a host read of a window offset returns: 0 at a reserved offset (10_state.md R24, 20_memory.md R62). -/
def readOffset (c : Config) (b : Block) (off : Nat) : Word :=
  match regAt off with
  | some (r, _) => readReg c b r
  | none => 0#32

/-- Storing a value in a host-writable input register; the other registers have no such store (10_state.md R22). -/
def storeReg (b : Block) (v : Word) : Reg → Block
  | .arg => { b with arg := v }
  | .txCur => { b with txCur := v }
  | .txDirty => { b with txDirty := v }
  | .txFree => { b with txFree := v }
  | .txQueued => { b with txQueued := v }
  | .txBaseLo => { b with txBaseLo := v }
  | .txBaseHi => { b with txBaseHi := v }
  | .rxCur => { b with rxCur := v }
  | .rxHeadLo => { b with rxHeadLo := v }
  | .rxHeadHi => { b with rxHeadHi := v }
  | .rxTailLo => { b with rxTailLo := v }
  | .rxTailHi => { b with rxTailHi := v }
  | .rxBaseLo => { b with rxBaseLo := v }
  | .rxBaseHi => { b with rxBaseHi := v }
  | .cmd | .status | .capNtx | .capNrx | .capMisc | .warnCnt | .errInfo | .txRes | .txFreeCnt | .txInflCnt
  | .rxRes | .rxHeadIdx | .rxTailIdx | .rxDevCnt | .rxDrvCnt | .resultLo | .resultHi => b

/-- A host write to a register other than `CMD`, by its access code (20_memory.md R63, 10_state.md R24, R27). -/
def writeOffset (c : Config) (b : Block) (off : Nat) (v : Word) : Block :=
  match regAt off with
  | some (r, .rw) => storeReg b v r
  | some (r, .rw64) =>
    match c.ptrW with
    | .w64 => storeReg b v r
    | .w32 => b
  | some (_, .ro) => b
  | some (_, .wo) => b
  | none => b

end Sys2Proof.Machine
end

