-- ==== Sys2Proof/Machine/Port.lean ====
section
/-! DEFINITION. The block's port: which host accesses are allowed, what each one does, the write to `CMD` that runs a
command, and taking the next event in arrival order (20_memory.md R62 to R65, R70; 30_encoding.md R80). -/

namespace Sys2Proof.Machine

/-- The host byte address of an access. -/
def accessAddr : Access → Nat
  | .read a _ => a
  | .write a _ _ => a

/-- The width in bytes of an access, `n`. -/
def accessWidth : Access → Nat
  | .read _ n => n
  | .write _ n _ => n

/-- The window offset of an allowed access: 4 bytes wide, inside the 256-byte window, aligned (20_memory.md R62, R65).
None for any other access, one wholly outside the window among them (log 6). -/
def windowOffset (c : Config) (addr n : Nat) : Option Nat :=
  if n = 4 ∧ c.blockBase ≤ addr ∧ addr - c.blockBase < 256 ∧ (addr - c.blockBase) % 4 = 0
  then some (addr - c.blockBase)
  else none

/-- A host write of the word `w` to `CMD`: it runs exactly one command (30_encoding.md R80). -/
def runWord (w : Word) (s : State) : Result :=
  match decode w with
  | .ok i => exec i s
  | .error e => runIllegal w e s

/-- A host write of `v` at a window offset: `CMD` runs the command, any other register stores or ignores
(20_memory.md R63). -/
def writeWindow (off : Nat) (v : Word) (s : State) : Result :=
  if off = regOffset .cmd then runWord v s
  else .next (s.withBlk (writeOffset s.cfg s.blk off v))

/-- The state with the answer of the access being served. -/
def State.withReply (s : State) (r : Reply) : State := { s with reply := r }

/-- One host access. An access the port does not allow is a bus error, a fault of the host step (20_memory.md R65;
log 5). -/
def serveAccess (a : Access) (s : State) : Result :=
  match windowOffset s.cfg (accessAddr a) (accessWidth a) with
  | none => .fault (.busError a)
  | some off =>
    match a with
    | .read _ _ => .next (s.withReply (.data (readOffset s.cfg s.blk off)))
    | .write _ _ v => writeWindow off v (s.withReply .stored)

/-- One event. A hardware reset has SRST's effect on the block (70_reset_and_hazards.md R200) and answers no access
(log 4). -/
def serveEvent (e : Event) (s : State) : Result :=
  match e with
  | .access a => serveAccess a s
  | .hwReset => .next ((softReset s).withReply .none)

/-- The state with another list of events to come. -/
def State.withPending (s : State) (es : List Event) : State := { s with pending := es }

/-- The port serves the oldest pending event, whole and alone (20_memory.md R66, R70); with none, the block holds its
state (00_scope.md R10; log 3). -/
def serveNext (s : State) : Result :=
  match s.pending with
  | [] => .next s
  | e :: rest => serveEvent e (s.withPending rest)

/-- The write that carries the command word `w` (30_encoding.md R80, R86). -/
def cmdWrite (c : Config) (w : Word) : Event := .access (.write (c.blockBase + regOffset .cmd) 4 w)

/-- The window viewed as bytes: lane `b` of the register at offset `off` is bits `[8b+7 : 8b]`, little-endian
(20_memory.md R64). None outside the window. -/
def windowByte (c : Config) (b : Block) (addr : Nat) : Option Byte :=
  if c.blockBase ≤ addr ∧ addr - c.blockBase < 256
  then some ((readOffset c b ((addr - c.blockBase) / 4 * 4)).extractLsb' (8 * ((addr - c.blockBase) % 4)) 8)
  else none

end Sys2Proof.Machine
end

