-- ==== Sys2Proof/Machine/Step.lean ====
section
/-! DEFINITION. One step of the machine: one host access or reset event (70_reset_and_hazards.md R203). -/

namespace Sys2Proof.Machine

/-- "A model steps once per host access" (70_reset_and_hazards.md R203). -/
def step (s : State) : Host.Outcome State Fault Refusal := serveNext s

/-- The state in which the write of the table word to `CMD` is the next access (log 7): the block fetches no
instruction (10_state.md R21), so the word stands first in the list of accesses to come. -/
def State.withFetchWord (s : State) (nbits w : Nat) : State :=
  s.withPending (cmdWrite s.cfg (tableWord nbits w) :: s.pending)

end Sys2Proof.Machine
end

