-- ==== Sys2Proof/Machine/HostProgram.lean ====
section
/-! DEFINITION. Host program lines and pseudo-instructions and the accesses they stand for (30_encoding.md R86, R87). -/

namespace Sys2Proof.Machine

/-- One line of a host program. -/
inductive HostOp
  /-- `WR reg, value` (R86). -/
  | wr (r : Reg) (v : Word)
  /-- `RD reg` (R86). -/
  | rd (r : Reg)
  /-- `CMD mnemonic` (R86). -/
  | cmd (i : Instr)
  /-- `WR64 P, v` (R87). -/
  | wr64 (p : Ptr) (v : BitVec 64)
  /-- `TXLOAD c, d, f, q` (R87). -/
  | txLoad (c d f q : Word)
  /-- `RXLOAD h, t, b` (R87). -/
  | rxLoad (h t b : BitVec 64)
  /-- `FREE_AT k` (R87). -/
  | freeAt (k : Word)
  /-- `INFL_AT k` (R87). -/
  | inflAt (k : Word)
  /-- `DADDR.TX k` (R87). -/
  | daddrTx (k : Word)
  /-- `DADDR.RX k` (R87). -/
  | daddrRx (k : Word)
deriving DecidableEq, Repr

/-- The register of a pointer's low half (10_state.md R25). -/
def ptrLoReg : Ptr → Reg
  | .txBase => .txBaseLo
  | .rxHead => .rxHeadLo
  | .rxTail => .rxTailLo
  | .rxBase => .rxBaseLo

/-- The register of a pointer's high half (10_state.md R25). -/
def ptrHiReg : Ptr → Reg
  | .txBase => .txBaseHi
  | .rxHead => .rxHeadHi
  | .rxTail => .rxTailHi
  | .rxBase => .rxBaseHi

/-- `WR reg, value` as an access (R86). -/
def wrEvent (c : Config) (r : Reg) (v : Word) : Event := .access (.write (c.blockBase + regOffset r) 4 v)

/-- `RD reg` as an access (R86). -/
def rdEvent (c : Config) (r : Reg) : Event := .access (.read (c.blockBase + regOffset r) 4)

/-- `CMD mnemonic` as an access (R86). -/
def cmdEvent (c : Config) (i : Instr) : Event := cmdWrite c (encode i)

/-- `WR64 P, v`: the low half, then the high half (R87). -/
def wr64Events (c : Config) (p : Ptr) (v : BitVec 64) : List Event :=
  [wrEvent c (ptrLoReg p) (v.extractLsb' 0 32), wrEvent c (ptrHiReg p) (v.extractLsb' 32 32)]

/-- The accesses a program line stands for, in the order they are made (R86, R87). -/
def hostOpEvents (c : Config) : HostOp → List Event
  | .wr r v => [wrEvent c r v]
  | .rd r => [rdEvent c r]
  | .cmd i => [cmdEvent c i]
  | .wr64 p v => wr64Events c p v
  | .txLoad x d f q => [wrEvent c .txCur x, wrEvent c .txDirty d, wrEvent c .txFree f, wrEvent c .txQueued q]
  | .rxLoad h t b => wr64Events c .rxHead h ++ wr64Events c .rxTail t ++ wr64Events c .rxBase b
  | .freeAt k => [wrEvent c .arg k, cmdEvent c .txFreeAt, rdEvent c .resultLo]
  | .inflAt k => [wrEvent c .arg k, cmdEvent c .txInflAt, rdEvent c .resultLo]
  | .daddrTx k => [wrEvent c .arg k, cmdEvent c .txDescAddr, rdEvent c .resultLo, rdEvent c .resultHi]
  | .daddrRx k => [wrEvent c .arg k, cmdEvent c .rxDescAddr, rdEvent c .resultLo, rdEvent c .resultHi]

/-- The accesses of a whole host program. -/
def programEvents (c : Config) (p : List HostOp) : List Event := p.flatMap (hostOpEvents c)

end Sys2Proof.Machine
end

