-- ==== Sys2Proof/WellFormed.lean ====
section
/-! DEFINITION. What a well-formed command and a well-formed instance are. -/

namespace Sys2Proof

/-- Every command is well formed: a command word carries no immediate and no register number (30_encoding.md R83),
so there is no operand to be out of range. -/
def Instr.wf : Instr → Bool
  | .nop => true
  | .txEval => true
  | .txFreeAt => true
  | .txInflAt => true
  | .rxEval => true
  | .txDescAddr => true
  | .rxDescAddr => true
  | .clrWarn => true
  | .srst => true

/-- The parameter ranges of 00_scope.md R5, R6, R8 and R9 (`PTR_W` is in range by its type, R7). -/
def Config.wf (c : Config) : Bool :=
  decide (1 ≤ c.nTx) && decide (c.nTx ≤ 2 ^ 32 - 1) &&
  decide (1 ≤ c.nRx) && decide (c.nRx ≤ 2 ^ 32 - 1) &&
  decide (1 ≤ c.descSize) && decide (c.descSize ≤ 65535) &&
  decide (c.blockBase % 256 = 0)

end Sys2Proof
end

