-- ==== Sys2Proof/Safety.lean ====
section
/-! DEFINITION. What a good state is, what ends a halt, and when a run has gone wrong (60_exceptions.md R171, R175, R177;
70_reset_and_hazards.md R217). -/

namespace Sys2Proof.Machine

/-- The error records 60_exceptions.md R171 allows: which command raises which code with which WHICH. -/
def legalError (code : ErrCode) (op : BitVec 4) (which : Bool) : Bool :=
  match code with
  | .illegalCmd => which || (decide (8 ≤ op.toNat) && decide (op.toNat ≤ 14))
  | .txIdxRange => decide (op = opField (encode .txEval))
  | .rxIdxRange => decide (op = opField (encode .rxEval))
  | .notEvaluated => !which && (decide (op = opField (encode .txFreeAt)) || decide (op = opField (encode .txInflAt)))
  | .listRange => !which && (decide (op = opField (encode .txFreeAt)) || decide (op = opField (encode .txInflAt)))
  | .descIdxRange =>
    !which && (decide (op = opField (encode .txDescAddr)) || decide (op = opField (encode .rxDescAddr)))

/-- The result registers and the latch hold what some TX_EVAL wrote: the latched indices are in range, and `TX_RES` and
the counts are those of the latched pointers with some pair of counts (10_state.md R36, R37, R50; 40_tx_tracker.md
R106). -/
def TxRecorded (n : Nat) (b : Block) : Prop :=
  b.sCur.toNat < n ∧ b.sDirty.toNat < n ∧
  ∃ f q : Word,
    b.txRes = txEvalRes b.sCur.toNat b.sDirty.toNat f.toNat q.toNat n ∧
    b.txFreeCnt.toNat = (freeList b.sCur.toNat b.sDirty.toNat (txCaseOf f.toNat q.toNat n) n).length ∧
    b.txInflCnt.toNat = (inflList b.sCur.toNat b.sDirty.toNat (txCaseOf f.toNat q.toNat n) n).length

/-- The RX result registers hold what some RX_EVAL wrote (10_state.md R38, R39; 41_rx_tracker.md R136). -/
def RxRecorded (n : Nat) (b : Block) : Prop :=
  b.rxHeadIdx.toNat < n ∧ b.rxTailIdx.toNat < n ∧
  b.rxDevCnt.toNat = rxDevCount b.rxHeadIdx.toNat b.rxTailIdx.toNat n ∧
  b.rxDrvCnt.toNat = rxDrvCount b.rxHeadIdx.toNat b.rxTailIdx.toNat n ∧
  ∃ hrem trem : Bool, b.rxRes = rxResWord (rxCaseOf b.rxHeadIdx.toNat b.rxTailIdx.toNat) hrem trem

/-- A good state: one the rules of spec/ allow a well-formed instance to be in. -/
structure GoodState (s : State) : Prop where
  /-- The parameters are in range (00_scope.md R5 to R9). -/
  cfg_wf : s.cfg.wf = true
  /-- With 32-bit pointers the `*_HI` registers have no storage, and `RESULT_HI` is 0 (10_state.md R25, R40). -/
  hi_zero : s.cfg.ptrW = .w32 → s.blk.txBaseHi = 0#32 ∧ s.blk.rxHeadHi = 0#32 ∧ s.blk.rxTailHi = 0#32 ∧
    s.blk.rxBaseHi = 0#32 ∧ s.blk.resultHi = 0#32
  /-- With no TX_EVAL completed, the TX results and the latch are at reset (10_state.md R30, R36, R37, R50). -/
  tx_none : s.blk.txValid = false → s.blk.txRes = 0#32 ∧ s.blk.txFreeCnt = 0#32 ∧ s.blk.txInflCnt = 0#32 ∧
    s.blk.sCur = 0#32 ∧ s.blk.sDirty = 0#32
  /-- With a TX_EVAL completed, they are its results. -/
  tx_some : s.blk.txValid = true → TxRecorded s.cfg.nTx s.blk
  /-- With no RX_EVAL completed, the RX results are at reset (10_state.md R30, R38, R39). -/
  rx_none : s.blk.rxValid = false → s.blk.rxRes = 0#32 ∧ s.blk.rxHeadIdx = 0#32 ∧ s.blk.rxTailIdx = 0#32 ∧
    s.blk.rxDevCnt = 0#32 ∧ s.blk.rxDrvCnt = 0#32
  /-- With an RX_EVAL completed, they are its results. -/
  rx_some : s.blk.rxValid = true → RxRecorded s.cfg.nRx s.blk
  /-- While not halted, no error is recorded (10_state.md R35). -/
  err_none : s.blk.halt = false → s.blk.errInfo = 0#32
  /-- While halted, the record is one R171 allows (60_exceptions.md R171, R173). -/
  err_some : s.blk.halt = true → ∃ code op which, s.blk.errInfo = errInfoWord code op which ∧
    legalError code op which = true

/-- The events that clear `HALT`: an SRST write, or a hardware reset (60_exceptions.md R175). -/
def clearsHalt (c : Config) : Event → Bool
  | .hwReset => true
  | .access (.read _ _) => false
  | .access (.write a n v) => decide (windowOffset c a n = some (regOffset .cmd)) && decide (v = encode .srst)

/-- The next event is a write of the command `i` to `CMD`. -/
def NextIsCommand (s : State) (i : Instr) : Prop := ∃ rest, s.pending = cmdWrite s.cfg (encode i) :: rest

/-- The next event is an SRST write or a hardware reset. -/
def NextIsReset (s : State) : Prop := ∃ e rest, s.pending = e :: rest ∧ clearsHalt s.cfg e = true

/-- The events that the port turns away with a bus error (20_memory.md R65). -/
def turnedAway (c : Config) : Event → Bool
  | .hwReset => false
  | .access a => decide (windowOffset c (accessAddr a) (accessWidth a) = none)

/-- `k` steps, stopping at the first fault: `Sys2Proof.core.run`, on `State` itself. -/
def runSteps : Nat → State → Host.Outcome State Fault Refusal
  | 0, s => .next s
  | k + 1, s =>
    match step s with
    | .next t => runSteps k t
    | .fault f => .fault f
    | .refused r => .refused r

/-- A run: every pending event, one by one (70_reset_and_hazards.md R217). -/
def runAll (s : State) : Host.Outcome State Fault Refusal := runSteps s.pending.length s

/-- A run has not gone wrong: no access took a bus error, and the end state has `HALT = 0` (70_reset_and_hazards.md R217,
60_exceptions.md R177). An SRST in the run hides an earlier fault (R177): a claim forbids it by `clearsHalt`. -/
def RunSafe (s : State) : Prop := ∃ t, runAll s = .next t ∧ t.blk.halt = false

end Sys2Proof.Machine
end

