-- ==== Sys2Proof/Certificates/Slice0/Obligations.lean ====
section
/-! DEFINITION. The statements for the provers. -/

open Sys2Proof Sys2Proof.Machine

/-! ## Encoding -/

/-- 30_encoding.md R82: the words of the command map, and words around them, decode as the map says. -/
def Obligations.CommandWordsDecode : Prop :=
  decode 0x00000000#32 = .ok .nop ∧ decode 0x00000001#32 = .ok .txEval ∧ decode 0x00000002#32 = .ok .txFreeAt ∧
  decode 0x00000003#32 = .ok .txInflAt ∧ decode 0x00000004#32 = .ok .rxEval ∧
  decode 0x00000005#32 = .ok .txDescAddr ∧ decode 0x00000006#32 = .ok .rxDescAddr ∧
  decode 0x00000007#32 = .ok .clrWarn ∧ decode 0x0000000F#32 = .ok .srst ∧
  decode 0x00000008#32 = .error .reservedOp ∧ decode 0x0000000E#32 = .error .reservedOp ∧
  decode 0x00000010#32 = .error .reservedBits ∧ decode 0x0000001F#32 = .error .reservedBits ∧
  decode 0x80000001#32 = .error .reservedBits

/-- 30_encoding.md R81, R82: decoding the word of a well-formed command gives the command back, through the table's
numbering too, and a word that decodes to a command is that command's word, so no bit is dropped. -/
def Obligations.DecodeEncodeAgree : Prop :=
  (∀ i : Instr, i.wf = true → decode (encode i) = .ok i ∧ decodeTableWord 32 (encode i).toNat = some i) ∧
  (∀ (w : Word) (i : Instr), decode w = .ok i → w = encode i) ∧
  (∀ (w : Nat) (i : Instr), w < 2 ^ 32 → decodeTableWord 32 w = some i → w = (encode i).toNat)

/-- 30_encoding.md R84: exactly nine words are commands; any other is ILLEGAL_CMD, WHICH 1 for a nonzero reserved bit
and WHICH 0 for OP 0x8 to 0xE; it is fatal when written (R80, R173), or ignored while halted
(R174). What a step leaves in `pending` and `reply` is the model's choice (log 3). -/
def Obligations.CommandWordsSplitInThreeSets : Prop :=
  (∀ w : Word, (∃ i, decode w = .ok i) ↔ w.toNat ≤ 0x7 ∨ w.toNat = 0xF) ∧
  (∀ w : Word, w.extractLsb' 4 28 ≠ 0#28 → decode w = .error .reservedBits) ∧
  (∀ w : Word, 0x8 ≤ w.toNat → w.toNat ≤ 0xE → decode w = .error .reservedOp) ∧
  (∀ (s : State) (w : Word) (rest : List Event), s.pending = cmdWrite s.cfg w :: rest → s.blk.halt = false →
    (w.extractLsb' 4 28 ≠ 0#28 → step s = .next { s with
      pending := rest, reply := .stored,
      blk := { s.blk with halt := true, errInfo := errInfoWord .illegalCmd (w.extractLsb' 0 4) true } }) ∧
    (0x8 ≤ w.toNat → w.toNat ≤ 0xE → step s = .next { s with
      pending := rest, reply := .stored,
      blk := { s.blk with halt := true, errInfo := errInfoWord .illegalCmd (w.extractLsb' 0 4) false } })) ∧
  (∀ (s : State) (w : Word) (rest : List Event), s.pending = cmdWrite s.cfg w :: rest → s.blk.halt = true →
    (w.extractLsb' 4 28 ≠ 0#28 ∨ (0x8 ≤ w.toNat ∧ w.toNat ≤ 0xE)) →
    step s = .next { s with pending := rest, reply := .stored })

/-! ## Invariant and reset -/

/-- 70_reset_and_hazards.md R200: the reset state of every well-formed instance is a good state, and so is the reset
state of the instance the model names (log 2). -/
def Obligations.ResetStateIsGood : Prop :=
  (∀ c : Config, c.wf = true → GoodState (State.resetOf c)) ∧ GoodState State.reset

/-- Every step from a good state gives a good state. -/
def Obligations.StepKeepsGoodState : Prop :=
  ∀ s t : State, GoodState s → step s = .next t → GoodState t

/-- 70_reset_and_hazards.md R200: a hardware reset and SRST have the same effect on the block: every state field is at
its reset value, and the parameters (so the `CAP_*` registers) stay. That a hardware reset keeps the events still to come
and answers no access (`reply` is `none`) is the model's choice (log 4). -/
def Obligations.HardwareResetIsSoftReset : Prop :=
  Block.reset = {
    arg := 0#32, txCur := 0#32, txDirty := 0#32, txFree := 0#32, txQueued := 0#32, txBaseLo := 0#32, txBaseHi := 0#32,
    rxCur := 0#32, rxHeadLo := 0#32, rxHeadHi := 0#32, rxTailLo := 0#32, rxTailHi := 0#32, rxBaseLo := 0#32,
    rxBaseHi := 0#32, txRes := 0#32, txFreeCnt := 0#32, txInflCnt := 0#32, rxRes := 0#32, rxHeadIdx := 0#32,
    rxTailIdx := 0#32, rxDevCnt := 0#32, rxDrvCnt := 0#32, resultLo := 0#32, resultHi := 0#32, halt := false,
    txValid := false, rxValid := false, warnCnt := 0#32, errInfo := 0#32, sCur := 0#32, sDirty := 0#32 } ∧
  State.reset.blk = Block.reset ∧
  (∀ (s : State) (rest : List Event), s.pending = .hwReset :: rest →
    step s = .next { s with blk := Block.reset, pending := rest, reply := .none }) ∧
  (∀ s : State, exec .srst s = .next { s with blk := Block.reset })

/-- 70_reset_and_hazards.md R201: what the first commands after reset do, for every well-formed instance. -/
def Obligations.FirstCommandsAfterReset : Prop :=
  ∀ c : Config, c.wf = true →
    statusWord (State.resetOf c).blk = 0#32 ∧
    exec .txFreeAt (State.resetOf c) = .next { State.resetOf c with
      blk := { Block.reset with halt := true, errInfo := 0x00000204#32 } } ∧
    exec .txInflAt (State.resetOf c) = .next { State.resetOf c with
      blk := { Block.reset with halt := true, errInfo := 0x00000304#32 } } ∧
    exec .txEval (State.resetOf c) = .next { State.resetOf c with
      blk := { Block.reset with txRes := 0x00000013#32, txValid := true } } ∧
    exec .rxEval (State.resetOf c) = .next { State.resetOf c with
      blk := { Block.reset with
        rxRes := 0x00000001#32, rxDrvCnt := BitVec.ofNat 32 c.nRx, rxValid := true, warnCnt := 1#32 } } ∧
    exec .txDescAddr (State.resetOf c) = .next (State.resetOf c) ∧
    exec .rxDescAddr (State.resetOf c) = .next (State.resetOf c)

/-! ## The port -/

/-- 30_encoding.md R80: when the next access writes a command's word to `CMD`, the step is that command's meaning at the
state whose access has been taken and answered (`pending` and `reply` are the model's choice, log 3). -/
def Obligations.StepRunsTheDecodedCommand : Prop :=
  ∀ (s : State) (w : Word) (i : Instr) (rest : List Event),
    s.pending = cmdWrite s.cfg w :: rest → decode w = .ok i →
    step s = exec i { s with pending := rest, reply := .stored }

/-- 00_scope.md R10: with no access in progress the block holds its state (that such a step is one at all is the model's
choice, log 3). -/
def Obligations.IdleBlockHoldsItsState : Prop :=
  ∀ s : State, s.pending = [] → step s = .next s

/-- 20_memory.md R65: the step is a fault exactly on an access that is not 4 bytes wide, aligned and inside the window,
and the fault is the bus error of that access; no step is refused. That the run ends there is log 5. -/
def Obligations.OnlyBadAccessesFault : Prop :=
  ∀ s : State,
    (∀ f : Fault, step s = .fault f ↔ ∃ (a : Access) (rest : List Event), s.pending = .access a :: rest ∧
      f = .busError a ∧
      ¬ (accessWidth a = 4 ∧ s.cfg.blockBase ≤ accessAddr a ∧ accessAddr a < s.cfg.blockBase + 256 ∧
        (accessAddr a - s.cfg.blockBase) % 4 = 0)) ∧
    (∀ r : Refusal, step s ≠ .refused r)

/-- 20_memory.md R62: an aligned 32-bit read inside the window answers the register's value, 0 for `CMD`, a reserved
offset and an RW64 register when `PTR_W = 32` (R23, R24), and changes no state of the block. What a step leaves in `pending`
and `reply` is the model's choice (log 3). -/
def Obligations.HostReadReturnsTheRegister : Prop :=
  (∀ (s : State) (off : Nat) (rest : List Event), off < 256 → off % 4 = 0 →
    s.pending = .access (.read (s.cfg.blockBase + off) 4) :: rest →
    step s = .next { s with pending := rest, reply := .data (readOffset s.cfg s.blk off) }) ∧
  (∀ (c : Config) (b : Block),
    readOffset c b 0x00 = 0#32 ∧ readOffset c b 0x04 = statusWord b ∧
    readOffset c b 0x08 = BitVec.ofNat 32 c.nTx ∧ readOffset c b 0x0C = BitVec.ofNat 32 c.nRx ∧
    readOffset c b 0x10 = capMiscWord c ∧ readOffset c b 0x14 = b.warnCnt ∧ readOffset c b 0x18 = b.errInfo ∧
    readOffset c b 0x1C = b.arg ∧ readOffset c b 0x20 = b.txCur ∧ readOffset c b 0x24 = b.txDirty ∧
    readOffset c b 0x28 = b.txFree ∧ readOffset c b 0x2C = b.txQueued ∧ readOffset c b 0x30 = b.txBaseLo ∧
    readOffset c b 0x34 = (if c.ptrW = .w64 then b.txBaseHi else 0#32) ∧ readOffset c b 0x40 = b.rxCur ∧
    readOffset c b 0x48 = b.rxHeadLo ∧ readOffset c b 0x4C = (if c.ptrW = .w64 then b.rxHeadHi else 0#32) ∧
    readOffset c b 0x50 = b.rxTailLo ∧ readOffset c b 0x54 = (if c.ptrW = .w64 then b.rxTailHi else 0#32) ∧
    readOffset c b 0x58 = b.rxBaseLo ∧ readOffset c b 0x5C = (if c.ptrW = .w64 then b.rxBaseHi else 0#32) ∧
    readOffset c b 0x80 = b.txRes ∧ readOffset c b 0x84 = b.txFreeCnt ∧ readOffset c b 0x88 = b.txInflCnt ∧
    readOffset c b 0x90 = b.rxRes ∧ readOffset c b 0x94 = b.rxHeadIdx ∧ readOffset c b 0x98 = b.rxTailIdx ∧
    readOffset c b 0x9C = b.rxDevCnt ∧ readOffset c b 0xA0 = b.rxDrvCnt ∧
    readOffset c b 0xA8 = b.resultLo ∧ readOffset c b 0xAC = b.resultHi ∧
    (∀ off : Nat, off = 0x38 ∨ off = 0x3C ∨ off = 0x44 ∨ (0x60 ≤ off ∧ off ≤ 0x7C) ∨ off = 0x8C ∨ off = 0xA4 ∨
      (0xB0 ≤ off ∧ off ≤ 0xFC) → readOffset c b off = 0#32))

/-- 20_memory.md R63: an aligned 32-bit write inside the window stores in an RW register (and in an RW64 register when
`PTR_W = 64`), runs the command at `CMD`, and has no effect on an RO register, a reserved offset, or an RW64 register
when `PTR_W = 32` (10_state.md R23, R24, R27). What a step leaves in `pending` and `reply` is the model's choice (log 3). -/
def Obligations.HostWriteStoresRunsOrIsIgnored : Prop :=
  ∀ (s : State) (off : Nat) (v : Word) (rest : List Event), off < 256 → off % 4 = 0 →
    s.pending = .access (.write (s.cfg.blockBase + off) 4 v) :: rest →
    (∀ b : Block,
      (off = 0x1C ∧ b = { s.blk with arg := v }) ∨ (off = 0x20 ∧ b = { s.blk with txCur := v }) ∨
      (off = 0x24 ∧ b = { s.blk with txDirty := v }) ∨ (off = 0x28 ∧ b = { s.blk with txFree := v }) ∨
      (off = 0x2C ∧ b = { s.blk with txQueued := v }) ∨ (off = 0x30 ∧ b = { s.blk with txBaseLo := v }) ∨
      (off = 0x40 ∧ b = { s.blk with rxCur := v }) ∨ (off = 0x48 ∧ b = { s.blk with rxHeadLo := v }) ∨
      (off = 0x50 ∧ b = { s.blk with rxTailLo := v }) ∨ (off = 0x58 ∧ b = { s.blk with rxBaseLo := v }) ∨
      (off = 0x34 ∧ s.cfg.ptrW = .w64 ∧ b = { s.blk with txBaseHi := v }) ∨
      (off = 0x4C ∧ s.cfg.ptrW = .w64 ∧ b = { s.blk with rxHeadHi := v }) ∨
      (off = 0x54 ∧ s.cfg.ptrW = .w64 ∧ b = { s.blk with rxTailHi := v }) ∨
      (off = 0x5C ∧ s.cfg.ptrW = .w64 ∧ b = { s.blk with rxBaseHi := v }) →
      step s = .next { s with pending := rest, reply := .stored, blk := b }) ∧
    (off = 0x00 → step s = runWord v { s with pending := rest, reply := .stored }) ∧
    ((0x04 ≤ off ∧ off ≤ 0x18) ∨ off = 0x38 ∨ off = 0x3C ∨ off = 0x44 ∨ 0x60 ≤ off ∨
      (s.cfg.ptrW = .w32 ∧ (off = 0x34 ∨ off = 0x4C ∨ off = 0x54 ∨ off = 0x5C)) →
      step s = .next { s with pending := rest, reply := .stored })

/-- 20_memory.md R64: the window read as bytes is little-endian, and the two halves of a 64-bit pointer read as one
little-endian 64-bit quantity. -/
def Obligations.WindowIsLittleEndian : Prop :=
  (∀ (c : Config) (b : Block) (off lane : Nat), off < 256 → off % 4 = 0 → lane < 4 →
    windowByte c b (c.blockBase + off + lane) = some ((readOffset c b off).extractLsb' (8 * lane) 8)) ∧
  (∀ (c : Config) (b : Block), c.ptrW = .w64 →
    (readOffset c b 0x34 ++ readOffset c b 0x30).toNat = ptrValue c b .txBase ∧
    (readOffset c b 0x4C ++ readOffset c b 0x48).toNat = ptrValue c b .rxHead ∧
    (readOffset c b 0x54 ++ readOffset c b 0x50).toNat = ptrValue c b .rxTail ∧
    (readOffset c b 0x5C ++ readOffset c b 0x58).toNat = ptrValue c b .rxBase)

/-- 10_state.md R25: a pointer is `{P_HI, P_LO}` when `PTR_W = 64` and `P_LO` when `PTR_W = 32`; then the `*_HI`
registers read 0 and ignore writes. -/
def Obligations.PointerAssembly : Prop :=
  ∀ (c : Config) (b : Block),
    (c.ptrW = .w64 →
      ptrValue c b .txBase = b.txBaseHi.toNat * 2 ^ 32 + b.txBaseLo.toNat ∧
      ptrValue c b .rxHead = b.rxHeadHi.toNat * 2 ^ 32 + b.rxHeadLo.toNat ∧
      ptrValue c b .rxTail = b.rxTailHi.toNat * 2 ^ 32 + b.rxTailLo.toNat ∧
      ptrValue c b .rxBase = b.rxBaseHi.toNat * 2 ^ 32 + b.rxBaseLo.toNat) ∧
    (c.ptrW = .w32 →
      ptrValue c b .txBase = b.txBaseLo.toNat ∧ ptrValue c b .rxHead = b.rxHeadLo.toNat ∧
      ptrValue c b .rxTail = b.rxTailLo.toNat ∧ ptrValue c b .rxBase = b.rxBaseLo.toNat ∧
      ∀ off : Nat, off = 0x34 ∨ off = 0x4C ∨ off = 0x54 ∨ off = 0x5C →
        readOffset c b off = 0#32 ∧ ∀ v : Word, writeOffset c b off v = b)

/-- 10_state.md R30, R33, R35, R36, R38, 60_exceptions.md R171: the bits of `STATUS`, `CAP_MISC`, `ERR_INFO`, `TX_RES` and
`RX_RES`, the numbers of the CASE and error codes, and that a stored CASE reads back as the case it was built from. -/
def Obligations.RegisterFieldLayouts : Prop :=
  (∀ b : Block, (statusWord b).getLsbD 0 = b.halt ∧ ((statusWord b).getLsbD 1 = true ↔ b.warnCnt ≠ 0#32) ∧
    (statusWord b).getLsbD 2 = b.txValid ∧ (statusWord b).getLsbD 3 = b.rxValid ∧
    (statusWord b).extractLsb' 4 28 = 0#28) ∧
  (∀ c : Config, (capMiscWord c).extractLsb' 0 16 = BitVec.ofNat 16 c.descSize ∧
    ((capMiscWord c).getLsbD 16 = true ↔ c.ptrW = .w64) ∧ (capMiscWord c).extractLsb' 17 15 = 0#15) ∧
  (∀ (e : ErrCode) (op : BitVec 4) (which : Bool), (errInfoWord e op which).extractLsb' 0 8 = e.byte ∧
    (errInfoWord e op which).extractLsb' 8 4 = op ∧ (errInfoWord e op which).getLsbD 12 = which ∧
    (errInfoWord e op which).extractLsb' 13 19 = 0#19) ∧
  (∀ (k : TxCase) (fw iw inc : Bool), (txResWord k fw iw inc).extractLsb' 0 2 = k.code ∧
    (txResWord k fw iw inc).getLsbD 2 = fw ∧ (txResWord k fw iw inc).getLsbD 3 = iw ∧
    (txResWord k fw iw inc).getLsbD 4 = inc ∧ (txResWord k fw iw inc).extractLsb' 5 27 = 0#27) ∧
  (∀ (k : RxCase) (hr tr : Bool), (rxResWord k hr tr).extractLsb' 0 2 = k.code ∧
    (rxResWord k hr tr).getLsbD 2 = hr ∧ (rxResWord k hr tr).getLsbD 3 = tr ∧
    (rxResWord k hr tr).extractLsb' 4 28 = 0#28) ∧
  (TxCase.none.code = 0#2 ∧ TxCase.allFree.code = 1#2 ∧ TxCase.allInflight.code = 2#2 ∧ TxCase.mixed.code = 3#2) ∧
  (RxCase.none.code = 0#2 ∧ RxCase.equal.code = 1#2 ∧ RxCase.headGtTail.code = 2#2 ∧ RxCase.headLtTail.code = 3#2) ∧
  (ErrCode.illegalCmd.byte = 0x01#8 ∧ ErrCode.txIdxRange.byte = 0x02#8 ∧ ErrCode.rxIdxRange.byte = 0x03#8 ∧
    ErrCode.notEvaluated.byte = 0x04#8 ∧ ErrCode.listRange.byte = 0x05#8 ∧ ErrCode.descIdxRange.byte = 0x06#8) ∧
  (∀ (k : TxCase) (fw iw inc : Bool), txResCase (txResWord k fw iw inc) = k) ∧
  (∀ (k : RxCase) (hr tr : Bool), rxResCase (rxResWord k hr tr) = k)

/-- 10_state.md R28, R37, R39, R40: in a good state the reserved bits of the stored registers are 0, the counts are at
most N, the indices are below N, and `RESULT_HI` is 0 when `PTR_W = 32`. -/
def Obligations.GoodStatesReadInRange : Prop :=
  ∀ s : State, GoodState s →
    s.blk.txRes.extractLsb' 5 27 = 0#27 ∧ s.blk.rxRes.extractLsb' 4 28 = 0#28 ∧ s.blk.errInfo.extractLsb' 13 19 = 0#19 ∧
    s.blk.txFreeCnt.toNat ≤ s.cfg.nTx ∧ s.blk.txInflCnt.toNat ≤ s.cfg.nTx ∧
    s.blk.rxHeadIdx.toNat < s.cfg.nRx ∧ s.blk.rxTailIdx.toNat < s.cfg.nRx ∧
    s.blk.rxDevCnt.toNat ≤ s.cfg.nRx ∧ s.blk.rxDrvCnt.toNat ≤ s.cfg.nRx ∧
    (s.cfg.ptrW = .w32 → s.blk.resultHi = 0#32)

/-! ## The commands -/

/-- 43_control.md R161: NOP is exactly the word 0, and it does nothing, whether or not the block is halted. -/
def Obligations.NopHasNoEffect : Prop :=
  encode .nop = 0x00000000#32 ∧ (∀ w : Word, decode w = .ok .nop ↔ w = 0x00000000#32) ∧
  ∀ s : State, exec .nop s = .next s

/-- 43_control.md R162: CLR_WARN sets `WARN_CNT` to 0, then `STATUS.WARN` reads 0, and nothing else changes; while halted
it is ignored. -/
def Obligations.ClrWarnClearsTheWarningCount : Prop :=
  encode .clrWarn = 0x00000007#32 ∧
  (∀ s : State, s.blk.halt = false → exec .clrWarn s = .next { s with blk := { s.blk with warnCnt := 0#32 } }) ∧
  (∀ s : State, (statusWord { s.blk with warnCnt := 0#32 }).getLsbD 1 = false) ∧
  (∀ s : State, s.blk.halt = true → exec .clrWarn s = .next s)

/-- 43_control.md R163: SRST is exactly the word 0x0000000F, and it sets every state field to its reset value, halted or
not; the `CAP_*` constants do not change. -/
def Obligations.SrstResetsEveryField : Prop :=
  (∀ w : Word, decode w = .ok .srst ↔ w = 0x0000000F#32) ∧
  (∀ s : State, exec .srst s = .next { s with blk := Block.reset }) ∧
  (∀ s t : State, exec .srst s = .next t → statusWord t.blk = 0#32 ∧
    ∀ off : Nat, readOffset t.cfg t.blk off =
      if off = 0x08 ∨ off = 0x0C ∨ off = 0x10 then readOffset s.cfg s.blk off else 0#32)

/-- 40_tx_tracker.md R106: TX_EVAL's results, by the case split of R103, the lists of R104 and the consistency condition
of R105; its two range checks, in order, each with nothing else written. -/
def Obligations.TxEvalFollowsItsRule : Prop :=
  encode .txEval = 0x00000001#32 ∧
  ∀ (s : State) (n c d f q : Nat) (k : TxCase), s.cfg.wf = true → s.blk.halt = false →
    n = s.cfg.nTx → c = s.blk.txCur.toNat → d = s.blk.txDirty.toNat → f = s.blk.txFree.toNat →
    q = s.blk.txQueued.toNat →
    k = (if f = n ∧ q = 0 then .allFree else if f = 0 ∧ q = n then .allInflight else .mixed) →
    (c < n → d < n → exec .txEval s = .next { s with blk := { s.blk with
      sCur := s.blk.txCur, sDirty := s.blk.txDirty,
      txRes := txResWord k (decide (k = .mixed ∧ d < c)) (decide (k = .mixed ∧ c < d))
        (decide (¬ (f + q = n ∧ ((c = d ∧ (f = 0 ∨ f = n)) ∨ (c ≠ d ∧ (f : Int) = ((d : Int) - (c : Int)) % (n : Int)))))),
      txFreeCnt := BitVec.ofNat 32 (freeList c d k n).length,
      txInflCnt := BitVec.ofNat 32 (inflList c d k n).length,
      txValid := true } }) ∧
    (n ≤ c → exec .txEval s = .next { s with blk := { s.blk with halt := true, errInfo := 0x00000102#32 } }) ∧
    (c < n → n ≤ d →
      exec .txEval s = .next { s with blk := { s.blk with halt := true, errInfo := 0x00001102#32 } })

/-- 40_tx_tracker.md R112: TX_FREE_AT returns entry `ARG` of the free list of the latched snapshot; NOT_EVALUATED before
any TX_EVAL; LIST_RANGE past the list's end. `GoodState` rules out latches no TX_EVAL leaves. -/
def Obligations.TxFreeAtReadsTheLatchedList : Prop :=
  encode .txFreeAt = 0x00000002#32 ∧
  ∀ (s : State) (l : List Nat), GoodState s → s.blk.halt = false →
    l = freeList s.blk.sCur.toNat s.blk.sDirty.toNat (txResCase s.blk.txRes) s.cfg.nTx →
    (s.blk.txValid = false →
      exec .txFreeAt s = .next { s with blk := { s.blk with halt := true, errInfo := 0x00000204#32 } }) ∧
    (s.blk.txValid = true → l.length = s.blk.txFreeCnt.toNat) ∧
    (s.blk.txValid = true → l.length ≤ s.blk.arg.toNat →
      exec .txFreeAt s = .next { s with blk := { s.blk with halt := true, errInfo := 0x00000205#32 } }) ∧
    (s.blk.txValid = true → ∀ h : s.blk.arg.toNat < l.length,
      l[s.blk.arg.toNat] = (s.blk.sCur.toNat + s.blk.arg.toNat) % s.cfg.nTx ∧
      exec .txFreeAt s = .next { s with blk := { s.blk with
        resultLo := BitVec.ofNat 32 l[s.blk.arg.toNat], resultHi := 0#32 } })

/-- 40_tx_tracker.md R116: TX_INFL_AT returns entry `ARG` of the in-flight list of the latched snapshot; NOT_EVALUATED
before any TX_EVAL; LIST_RANGE past the list's end. `GoodState` rules out latches no TX_EVAL leaves. -/
def Obligations.TxInflAtReadsTheLatchedList : Prop :=
  encode .txInflAt = 0x00000003#32 ∧
  ∀ (s : State) (l : List Nat), GoodState s → s.blk.halt = false →
    l = inflList s.blk.sCur.toNat s.blk.sDirty.toNat (txResCase s.blk.txRes) s.cfg.nTx →
    (s.blk.txValid = false →
      exec .txInflAt s = .next { s with blk := { s.blk with halt := true, errInfo := 0x00000304#32 } }) ∧
    (s.blk.txValid = true → l.length = s.blk.txInflCnt.toNat) ∧
    (s.blk.txValid = true → l.length ≤ s.blk.arg.toNat →
      exec .txInflAt s = .next { s with blk := { s.blk with halt := true, errInfo := 0x00000305#32 } }) ∧
    (s.blk.txValid = true → ∀ h : s.blk.arg.toNat < l.length,
      l[s.blk.arg.toNat] = (s.blk.sDirty.toNat + s.blk.arg.toNat) % s.cfg.nTx ∧
      exec .txInflAt s = .next { s with blk := { s.blk with
        resultLo := BitVec.ofNat 32 l[s.blk.arg.toNat], resultHi := 0#32 } })

/-- 41_rx_tracker.md R136: RX_EVAL's results, by the index derivation of R131, the remainder flags of R132, the case
split of R134 and the saturating warning of R180; its two range checks, in order, each with nothing else written. -/
def Obligations.RxEvalFollowsItsRule : Prop :=
  encode .rxEval = 0x00000004#32 ∧
  ∀ (s : State) (n size width hoff toff hi ti dev : Nat), s.cfg.wf = true → s.blk.halt = false →
    n = s.cfg.nRx → size = s.cfg.descSize → width = (if s.cfg.ptrW = .w64 then 64 else 32) →
    (hoff : Int) = ((ptrValue s.cfg s.blk .rxHead : Int) - (ptrValue s.cfg s.blk .rxBase : Int)) % (2 ^ width : Int) →
    (toff : Int) = ((ptrValue s.cfg s.blk .rxTail : Int) - (ptrValue s.cfg s.blk .rxBase : Int)) % (2 ^ width : Int) →
    hi = hoff / size → ti = toff / size →
    dev = (if hi = ti then 0 else if hi > ti then n - (hi - ti) + 1 else ti - hi + 1) →
    (hi < n → ti < n → exec .rxEval s = .next { s with blk := { s.blk with
      warnCnt := if hi = ti then BitVec.ofNat 32 (min (s.blk.warnCnt.toNat + 1) 0xFFFFFFFF) else s.blk.warnCnt,
      rxHeadIdx := BitVec.ofNat 32 hi, rxTailIdx := BitVec.ofNat 32 ti,
      rxDevCnt := BitVec.ofNat 32 dev, rxDrvCnt := BitVec.ofNat 32 (n - dev),
      rxRes := rxResWord (if hi = ti then .equal else if hi > ti then .headGtTail else .headLtTail)
        (decide (hoff % size ≠ 0)) (decide (toff % size ≠ 0)),
      rxValid := true } }) ∧
    (n ≤ hi → exec .rxEval s = .next { s with blk := { s.blk with halt := true, errInfo := 0x00000403#32 } }) ∧
    (hi < n → n ≤ ti →
      exec .rxEval s = .next { s with blk := { s.blk with halt := true, errInfo := 0x00001403#32 } })

/-- 42_descriptor_address.md R152, with the formula of R150: TX_DESC_ADDR returns the address of TX slot `ARG`, wrapping
modulo `2^PTR_W`; DESC_IDX_RANGE at or past `N_TX`. -/
def Obligations.TxDescAddrGivesTheSlotAddress : Prop :=
  encode .txDescAddr = 0x00000005#32 ∧
  ∀ (s : State) (a : Nat), s.blk.halt = false →
    a = (ptrValue s.cfg s.blk .txBase + s.blk.arg.toNat * s.cfg.descSize) %
      (if s.cfg.ptrW = .w64 then 2 ^ 64 else 2 ^ 32) →
    (s.blk.arg.toNat < s.cfg.nTx → exec .txDescAddr s = .next { s with blk := { s.blk with
      resultLo := (BitVec.ofNat 64 a).extractLsb' 0 32,
      resultHi := if s.cfg.ptrW = .w64 then (BitVec.ofNat 64 a).extractLsb' 32 32 else 0#32 } }) ∧
    (s.cfg.nTx ≤ s.blk.arg.toNat →
      exec .txDescAddr s = .next { s with blk := { s.blk with halt := true, errInfo := 0x00000506#32 } })

/-- 42_descriptor_address.md R154, with the formula of R150: RX_DESC_ADDR returns the address of RX slot `ARG`, wrapping
modulo `2^PTR_W`; DESC_IDX_RANGE at or past `N_RX`. -/
def Obligations.RxDescAddrGivesTheSlotAddress : Prop :=
  encode .rxDescAddr = 0x00000006#32 ∧
  ∀ (s : State) (a : Nat), s.blk.halt = false →
    a = (ptrValue s.cfg s.blk .rxBase + s.blk.arg.toNat * s.cfg.descSize) %
      (if s.cfg.ptrW = .w64 then 2 ^ 64 else 2 ^ 32) →
    (s.blk.arg.toNat < s.cfg.nRx → exec .rxDescAddr s = .next { s with blk := { s.blk with
      resultLo := (BitVec.ofNat 64 a).extractLsb' 0 32,
      resultHi := if s.cfg.ptrW = .w64 then (BitVec.ofNat 64 a).extractLsb' 32 32 else 0#32 } }) ∧
    (s.cfg.nRx ≤ s.blk.arg.toNat →
      exec .rxDescAddr s = .next { s with blk := { s.blk with halt := true, errInfo := 0x00000606#32 } })

/-- 42_descriptor_address.md R154 (its derived corner case): the address of an RX slot, written to `RX_HEAD`, gives the
slot's index back. -/
def Obligations.SlotAddressInvertsIndexDerivation : Prop :=
  ∀ s : State, s.cfg.wf = true → s.blk.halt = false → s.blk.arg.toNat < s.cfg.nRx →
    s.blk.arg.toNat * s.cfg.descSize < 2 ^ s.cfg.ptrW.bits →
    ∃ t : State, exec .rxDescAddr s = .next t ∧
      rxIndex t.cfg { t.blk with rxHeadLo := t.blk.resultLo, rxHeadHi := t.blk.resultHi } .rxHead = s.blk.arg.toNat

/-! ## The ring facts -/

/-- 40_tx_tracker.md R107: after a completed TX_EVAL the two lists repeat no index and are disjoint, and together they
are exactly the ring, unless the case is MIXED with `cur_tx = dirty_tx`, when both are empty. -/
def Obligations.TxListsPartitionTheRing : Prop :=
  ∀ (s t : State) (n : Nat) (k : TxCase) (fl il : List Nat), s.cfg.wf = true → s.blk.halt = false →
    exec .txEval s = .next t → t.blk.halt = false → n = s.cfg.nTx → k = txResCase t.blk.txRes →
    fl = freeList t.blk.sCur.toNat t.blk.sDirty.toNat k n → il = inflList t.blk.sCur.toNat t.blk.sDirty.toNat k n →
    fl.Nodup ∧ il.Nodup ∧ (∀ x ∈ fl, x ∉ il) ∧
    (k = .mixed ∧ s.blk.txCur = s.blk.txDirty → fl = [] ∧ il = []) ∧
    (¬ (k = .mixed ∧ s.blk.txCur = s.blk.txDirty) →
      fl.length + il.length = n ∧ ∀ x : Nat, x < n ↔ x ∈ fl ∨ x ∈ il)

/-- 40_tx_tracker.md R105, R106, R108: when a completed TX_EVAL reports INCONS = 0, the counts it reports are the counts
it was given, they sum to `N_TX`, and the free list has `N_TX - q` entries. -/
def Obligations.ConsistentSnapshotRoundTrip : Prop :=
  ∀ s t : State, s.cfg.wf = true → s.blk.halt = false → exec .txEval s = .next t → t.blk.halt = false →
    t.blk.txRes.getLsbD 4 = false →
    t.blk.txFreeCnt = s.blk.txFree ∧ t.blk.txInflCnt = s.blk.txQueued ∧
    s.blk.txFree.toNat + s.blk.txQueued.toNat = s.cfg.nTx ∧
    (freeList t.blk.sCur.toNat t.blk.sDirty.toNat (txResCase t.blk.txRes) s.cfg.nTx).length =
      s.cfg.nTx - s.blk.txQueued.toNat

/-- 41_rx_tracker.md R135: after a completed RX_EVAL the two counts sum to `N_RX`; equal indices give 0; different ones
give the slots from head to tail inclusive, at least 2, and all of them exactly when the head is just past the tail. -/
def Obligations.RxCountsAreExact : Prop :=
  ∀ (s t : State) (n hi ti dev : Nat), s.cfg.wf = true → s.blk.halt = false → exec .rxEval s = .next t →
    t.blk.halt = false → n = s.cfg.nRx → hi = t.blk.rxHeadIdx.toNat → ti = t.blk.rxTailIdx.toNat →
    dev = t.blk.rxDevCnt.toNat →
    hi < n ∧ ti < n ∧ dev + t.blk.rxDrvCnt.toNat = n ∧ (hi = ti → dev = 0) ∧
    (hi ≠ ti → 2 ≤ dev ∧ dev ≤ n ∧ (dev : Int) = ((ti : Int) - (hi : Int)) % (n : Int) + 1 ∧
      (dev = n ↔ hi = (ti + 1) % n))

/-! ## Fatal errors and the halted state -/

/-- 00_scope.md R14: every command answers a next state, a completion or a Fatal, and it touches neither
the parameters nor the host's side of the state, which is the model's choice (log 3). -/
def Obligations.EveryCommandAnswersANextState : Prop :=
  ∀ (i : Instr) (s : State), ∃ t : State, exec i s = .next t ∧ t.cfg = s.cfg ∧ t.pending = s.pending ∧
    t.reply = s.reply

/-- 60_exceptions.md R171, R173, R177: a step enters the halted state only by a write of a word to `CMD`; the step then
writes `HALT` and `ERR_INFO`, with that word's OP field and a record R171 allows, and no other state of the block. What a
step leaves in `pending` and `reply` is the model's choice (log 3). -/
def Obligations.FatalEntryIsPrecise : Prop :=
  ∀ s t : State, s.blk.halt = false → step s = .next t → t.blk.halt = true →
    ∃ (w : Word) (rest : List Event) (code : ErrCode) (which : Bool),
      s.pending = cmdWrite s.cfg w :: rest ∧ legalError code (w.extractLsb' 0 4) which = true ∧
      t = { s with
        pending := rest, reply := .stored,
        blk := { s.blk with halt := true, errInfo := errInfoWord code (w.extractLsb' 0 4) which } }

/-- 60_exceptions.md R174: while halted, a write to `CMD` of any word but SRST has no effect, writes to input registers
still store, and reads behave as usual. What a step leaves in `pending` and `reply` is the model's choice (log 3). -/
def Obligations.HaltedBlockIgnoresCommands : Prop :=
  ∀ s : State, s.blk.halt = true →
    (∀ i : Instr, i ≠ .srst → exec i s = .next s) ∧
    (∀ (w : Word) (rest : List Event), s.pending = cmdWrite s.cfg w :: rest → w ≠ 0x0000000F#32 →
      step s = .next { s with pending := rest, reply := .stored }) ∧
    (∀ (off : Nat) (v : Word) (rest : List Event), off < 256 → off % 4 = 0 → off ≠ 0 →
      s.pending = .access (.write (s.cfg.blockBase + off) 4 v) :: rest →
      step s = .next { s with pending := rest, reply := .stored, blk := writeOffset s.cfg s.blk off v }) ∧
    (∀ (off : Nat) (rest : List Event), off < 256 → off % 4 = 0 →
      s.pending = .access (.read (s.cfg.blockBase + off) 4) :: rest →
      step s = .next { s with pending := rest, reply := .data (readOffset s.cfg s.blk off) })

/-- 60_exceptions.md R175: only SRST or a hardware reset clears `HALT`, and what is left is the reset state: `HALT` is
never cleared while the other state is kept; and each of the two does clear it. -/
def Obligations.OnlyResetLeavesTheHaltedState : Prop :=
  (∀ s t : State, s.blk.halt = true → step s = .next t → t.blk.halt = false →
    NextIsReset s ∧ t.blk = Block.reset) ∧
  (∀ s : State, NextIsReset s → ∃ t : State, step s = .next t ∧ t.blk = Block.reset)

/-- 60_exceptions.md R172, R174, R177, 10_state.md R35: a run that starts halted and holds no SRST and no hardware reset
stays halted and keeps every field of the block but the input registers: the error record, the results, the validity bits,
the warning count and the latch, whatever else the host does. -/
def Obligations.HaltIsStickyAlongRuns : Prop :=
  ∀ (k : Nat) (s t : State), s.blk.halt = true → (∀ e ∈ s.pending, clearsHalt s.cfg e = false) →
    runSteps k s = .next t →
    t.blk.halt = true ∧ t.blk.errInfo = s.blk.errInfo ∧ t.blk.warnCnt = s.blk.warnCnt ∧
    t.blk.txRes = s.blk.txRes ∧ t.blk.txFreeCnt = s.blk.txFreeCnt ∧ t.blk.txInflCnt = s.blk.txInflCnt ∧
    t.blk.txValid = s.blk.txValid ∧ t.blk.sCur = s.blk.sCur ∧ t.blk.sDirty = s.blk.sDirty ∧
    t.blk.rxRes = s.blk.rxRes ∧ t.blk.rxHeadIdx = s.blk.rxHeadIdx ∧ t.blk.rxTailIdx = s.blk.rxTailIdx ∧
    t.blk.rxDevCnt = s.blk.rxDevCnt ∧ t.blk.rxDrvCnt = s.blk.rxDrvCnt ∧ t.blk.rxValid = s.blk.rxValid ∧
    t.blk.resultLo = s.blk.resultLo ∧ t.blk.resultHi = s.blk.resultHi

/-! ## Who writes what -/

/-- 10_state.md R34: `WARN_CNT` grows by one, saturating, with each completed RX_EVAL that found equal indices, and no
other step changes it but CLR_WARN, SRST and reset, which set it to 0. -/
def Obligations.WarnCountChangesOnlyAsCounted : Prop :=
  (∀ s t : State, s.cfg.wf = true → s.blk.halt = false → exec .rxEval s = .next t → t.blk.halt = false →
    t.blk.warnCnt.toNat = if t.blk.rxHeadIdx = t.blk.rxTailIdx
      then min (s.blk.warnCnt.toNat + 1) 0xFFFFFFFF else s.blk.warnCnt.toNat) ∧
  (∀ s t : State, step s = .next t → t.blk.warnCnt ≠ s.blk.warnCnt →
    (NextIsReset s ∧ t.blk.warnCnt = 0#32) ∨
    (NextIsCommand s .clrWarn ∧ s.blk.halt = false ∧ t.blk.warnCnt = 0#32) ∨
    (NextIsCommand s .rxEval ∧ s.blk.halt = false ∧ t.blk.halt = false ∧
      t.blk.warnCnt.toNat = s.blk.warnCnt.toNat + 1))

/-- 10_state.md R36, R37, R38, R39, R40, R50: a step changes the TX results and latch only by a completed TX_EVAL, the RX
results only by a completed RX_EVAL, and `RESULT` only by a completed list read or slot-address command, resets
apart. -/
def Obligations.ResultRegistersHaveTheirWriters : Prop :=
  ∀ s t : State, step s = .next t →
    NextIsReset s ∨
    ((t.blk.txRes = s.blk.txRes ∧ t.blk.txFreeCnt = s.blk.txFreeCnt ∧ t.blk.txInflCnt = s.blk.txInflCnt ∧
        t.blk.sCur = s.blk.sCur ∧ t.blk.sDirty = s.blk.sDirty ∧ t.blk.txValid = s.blk.txValid ∨
      NextIsCommand s .txEval ∧ s.blk.halt = false ∧ t.blk.halt = false ∧ t.blk.txValid = true) ∧
     (t.blk.rxRes = s.blk.rxRes ∧ t.blk.rxHeadIdx = s.blk.rxHeadIdx ∧ t.blk.rxTailIdx = s.blk.rxTailIdx ∧
        t.blk.rxDevCnt = s.blk.rxDevCnt ∧ t.blk.rxDrvCnt = s.blk.rxDrvCnt ∧ t.blk.rxValid = s.blk.rxValid ∨
      NextIsCommand s .rxEval ∧ s.blk.halt = false ∧ t.blk.halt = false ∧ t.blk.rxValid = true) ∧
     (t.blk.resultLo = s.blk.resultLo ∧ t.blk.resultHi = s.blk.resultHi ∨
      (NextIsCommand s .txFreeAt ∨ NextIsCommand s .txInflAt ∨ NextIsCommand s .txDescAddr ∨
        NextIsCommand s .rxDescAddr) ∧ s.blk.halt = false ∧ t.blk.halt = false))

/-- 10_state.md R22, R41: no command but SRST changes an input register; commands read them and never change them. -/
def Obligations.CommandsKeepTheInputRegisters : Prop :=
  ∀ (i : Instr) (s t : State), i ≠ .srst → exec i s = .next t →
    t.blk.arg = s.blk.arg ∧ t.blk.txCur = s.blk.txCur ∧ t.blk.txDirty = s.blk.txDirty ∧ t.blk.txFree = s.blk.txFree ∧
    t.blk.txQueued = s.blk.txQueued ∧ t.blk.txBaseLo = s.blk.txBaseLo ∧ t.blk.txBaseHi = s.blk.txBaseHi ∧
    t.blk.rxCur = s.blk.rxCur ∧ t.blk.rxHeadLo = s.blk.rxHeadLo ∧ t.blk.rxHeadHi = s.blk.rxHeadHi ∧
    t.blk.rxTailLo = s.blk.rxTailLo ∧ t.blk.rxTailHi = s.blk.rxTailHi ∧ t.blk.rxBaseLo = s.blk.rxBaseLo ∧
    t.blk.rxBaseHi = s.blk.rxBaseHi

/-- 10_state.md R42: no command reads `RX_CUR`, and its value affects no result: two states that differ in `RX_CUR` only
run every command to states that differ in `RX_CUR` only (SRST: to equal states). -/
def Obligations.RxCurAffectsNoResult : Prop :=
  ∀ (i : Instr) (s t : State) (v : Word), exec i s = .next t →
    exec i { s with blk := { s.blk with rxCur := v } } =
      .next (if i = .srst then t else { t with blk := { t.blk with rxCur := v } })

/-- 10_state.md R20, R31, R32, R33: no step changes the parameters, so the `CAP_*` registers read the same at all
times. -/
def Obligations.ParametersNeverChange : Prop :=
  ∀ s t : State, step s = .next t → t.cfg = s.cfg ∧
    ∀ off : Nat, off = 0x08 ∨ off = 0x0C ∨ off = 0x10 → readOffset t.cfg t.blk off = readOffset s.cfg s.blk off

/-! ## Runs -/

/-- 20_memory.md R70: a run over some accesses is not affected by the accesses after them, whatever they are, and the
accesses after them start from the state it leaves. The list of accesses is the model's `pending` (log 3), and that a run
stops at the first bus error is its reading of R65 (log 5). -/
def Obligations.EarlierAccessesDoNotSeeLaterOnes : Prop :=
  (∀ (s t : State) (es later : List Event), s.pending = es → runSteps es.length s = .next t →
    t.pending = [] ∧
    runSteps es.length { s with pending := es ++ later } = .next { t with pending := later }) ∧
  (∀ (s : State) (f : Fault) (es later : List Event), s.pending = es → runSteps es.length s = .fault f →
    runSteps es.length { s with pending := es ++ later } = .fault f) ∧
  (∀ (j k : Nat) (s t : State), runSteps j s = .next t →
    runSteps (j + k) s = runSteps k t)

/-- 70_reset_and_hazards.md R211: between the two writes of a 64-bit pointer the block holds one new half and one old
half, for each of the four pointers. -/
def Obligations.HalfWrittenPointerIsTorn : Prop :=
  ∀ (s : State) (p : Ptr) (v : Word) (rest : List Event), s.cfg.ptrW = .w64 →
    (s.pending = wrEvent s.cfg (ptrLoReg p) v :: rest → ∃ t : State, step s = .next t ∧
      ptrValue t.cfg t.blk p = (ptrHi s.blk p).toNat * 2 ^ 32 + v.toNat) ∧
    (s.pending = wrEvent s.cfg (ptrHiReg p) v :: rest → ∃ t : State, step s = .next t ∧
      ptrValue t.cfg t.blk p = v.toNat * 2 ^ 32 + (ptrLo s.blk p).toNat)

/-- 30_encoding.md R87: the accesses of `RXLOAD h, t, b` load the three RX pointers, at either width (modulo
`2^PTR_W`), halted or not. The list of accesses is the model's `pending` (log 3). -/
def Obligations.RxLoadLoadsThePointers : Prop :=
  ∀ (s : State) (h t b : BitVec 64), s.pending = hostOpEvents s.cfg (.rxLoad h t b) →
    ∃ u : State, runAll s = .next u ∧ u.pending = [] ∧
      ptrValue u.cfg u.blk .rxHead = h.toNat % 2 ^ s.cfg.ptrW.bits ∧
      ptrValue u.cfg u.blk .rxTail = t.toNat % 2 ^ s.cfg.ptrW.bits ∧
      ptrValue u.cfg u.blk .rxBase = b.toNat % 2 ^ s.cfg.ptrW.bits

/-- 70_reset_and_hazards.md R212, 10_state.md R50: after a TX_EVAL, reloading all four TX inputs does not change what
`FREE_AT k` and `INFL_AT k` answer: they read the latch. The list of accesses and the last answer are the model's `pending`
and `reply` (log 3). -/
def Obligations.ListReadsSurviveAReload : Prop :=
  ∀ (s : State) (c d f q k : Word), GoodState s → s.blk.halt = false → s.blk.txValid = true →
    (k.toNat < s.blk.txFreeCnt.toNat →
      s.pending = hostOpEvents s.cfg (.txLoad c d f q) ++ hostOpEvents s.cfg (.freeAt k) →
      ∃ u : State, runAll s = .next u ∧ u.blk.halt = false ∧ u.blk.txCur = c ∧ u.blk.txRes = s.blk.txRes ∧
        u.reply = .data (BitVec.ofNat 32 ((s.blk.sCur.toNat + k.toNat) % s.cfg.nTx))) ∧
    (k.toNat < s.blk.txInflCnt.toNat →
      s.pending = hostOpEvents s.cfg (.txLoad c d f q) ++ hostOpEvents s.cfg (.inflAt k) →
      ∃ u : State, runAll s = .next u ∧ u.blk.halt = false ∧ u.blk.txCur = c ∧ u.blk.txRes = s.blk.txRes ∧
        u.reply = .data (BitVec.ofNat 32 ((s.blk.sDirty.toNat + k.toNat) % s.cfg.nTx)))

/-- 20_memory.md R67: reading a register twice gives the same value twice, and writing an input register twice with the
same value leaves the state one write leaves. What a step leaves in `pending` and `reply` is the model's choice (log 3). -/
def Obligations.RepeatedAccessesAgree : Prop :=
  (∀ (s t : State) (off : Nat) (rest : List Event), off < 256 → off % 4 = 0 →
    s.pending = .access (.read (s.cfg.blockBase + off) 4) :: .access (.read (s.cfg.blockBase + off) 4) :: rest →
    step s = .next t → step t = .next { t with pending := rest }) ∧
  (∀ (s t : State) (off : Nat) (v : Word) (rest : List Event), off < 256 → off % 4 = 0 → off ≠ 0 →
    s.pending =
      .access (.write (s.cfg.blockBase + off) 4 v) :: .access (.write (s.cfg.blockBase + off) 4 v) :: rest →
    step s = .next t → step t = .next { t with pending := rest })

/-- 70_reset_and_hazards.md R217, 20_memory.md R65: a run comes to its end state exactly when no access in it takes a bus
error, whatever the words and values written; and a run gone right had none. That the run stops at the first bus error is the
model's reading of R65 (log 5). -/
def Obligations.RunsEndUnlessABusErrorStopsThem : Prop :=
  (∀ s : State, (∃ t, runAll s = .next t) ↔ ∀ e ∈ s.pending, turnedAway s.cfg e = false) ∧
  (∀ s : State, RunSafe s → ∀ e ∈ s.pending, turnedAway s.cfg e = false)
end

