-- ==== Sys2Proof/Laws/Flags.lean ====
section
/-! SUPPORT. Reading a field back from a packed register gives the field; the fields of the command words. -/

namespace Sys2Proof.Machine

@[simp] theorem txResCase_txResWord (k : TxCase) (fwrap iwrap incons : Bool) :
    txResCase (txResWord k fwrap iwrap incons) = k := by
  cases k <;> cases fwrap <;> cases iwrap <;> cases incons <;> rfl

@[simp] theorem rxResCase_rxResWord (k : RxCase) (hrem trem : Bool) : rxResCase (rxResWord k hrem trem) = k := by
  cases k <;> cases hrem <;> cases trem <;> rfl

@[simp] theorem txResCase_zero : txResCase 0#32 = .none := rfl

/-- `WARN_CNT` grows by exactly one below saturation and stays there at it (60_exceptions.md R180). -/
theorem warnCntSucc_toNat (w : Word) : (warnCntSucc w).toNat = min (w.toNat + 1) 0xFFFFFFFF := by
  have := w.isLt
  simp only [warnCntSucc, BitVec.toNat_ofNat]
  omega

end Sys2Proof.Machine

namespace Sys2Proof

@[simp] theorem rsvdField_toNat (w : Word) : (rsvdField w).toNat = w.toNat / 16 := by
  have := w.isLt
  simp only [rsvdField, BitVec.extractLsb'_toNat, Nat.shiftRight_eq_div_pow]
  omega

@[simp] theorem opField_toNat (w : Word) : (opField w).toNat = w.toNat % 16 := by
  simp [opField, BitVec.extractLsb'_toNat]

/-- The reserved bits of a word are clear exactly when the word is below 16 (30_encoding.md R81). -/
theorem rsvdField_eq_zero_iff (w : Word) : rsvdField w = 0#28 ↔ w.toNat < 16 := by
  rw [← BitVec.toNat_inj, rsvdField_toNat]
  simp

end Sys2Proof
end

