-- ==== Sys2Proof/Laws/State.lean ====
section
/-! SUPPORT. One lemma per field per update of the state, each true by rfl. -/

namespace Sys2Proof.Machine

section
variable (s : State) (b b' : Block) (r : Reply) (es : List Event)

@[simp] theorem State.withBlk_cfg : (s.withBlk b').cfg = s.cfg := rfl
@[simp] theorem State.withBlk_blk : (s.withBlk b').blk = b' := rfl
@[simp] theorem State.withBlk_pending : (s.withBlk b').pending = s.pending := rfl
@[simp] theorem State.withBlk_reply : (s.withBlk b').reply = s.reply := rfl

@[simp] theorem State.withReply_cfg : (s.withReply r).cfg = s.cfg := rfl
@[simp] theorem State.withReply_blk : (s.withReply r).blk = s.blk := rfl
@[simp] theorem State.withReply_pending : (s.withReply r).pending = s.pending := rfl
@[simp] theorem State.withReply_reply : (s.withReply r).reply = r := rfl

@[simp] theorem State.withPending_cfg : (s.withPending es).cfg = s.cfg := rfl
@[simp] theorem State.withPending_blk : (s.withPending es).blk = s.blk := rfl
@[simp] theorem State.withPending_pending : (s.withPending es).pending = es := rfl
@[simp] theorem State.withPending_reply : (s.withPending es).reply = s.reply := rfl

@[simp] theorem softReset_cfg : (softReset s).cfg = s.cfg := rfl
@[simp] theorem softReset_blk : (softReset s).blk = Block.reset := rfl
@[simp] theorem softReset_pending : (softReset s).pending = s.pending := rfl
@[simp] theorem softReset_reply : (softReset s).reply = s.reply := rfl

@[simp] theorem State.resetOf_cfg (c : Config) : (State.resetOf c).cfg = c := rfl
@[simp] theorem State.resetOf_blk (c : Config) : (State.resetOf c).blk = Block.reset := rfl
@[simp] theorem State.resetOf_pending (c : Config) : (State.resetOf c).pending = [] := rfl
@[simp] theorem State.resetOf_reply (c : Config) : (State.resetOf c).reply = .none := rfl

@[simp] theorem Block.reset_arg : Block.reset.arg = 0#32 := rfl
@[simp] theorem Block.reset_txCur : Block.reset.txCur = 0#32 := rfl
@[simp] theorem Block.reset_txDirty : Block.reset.txDirty = 0#32 := rfl
@[simp] theorem Block.reset_txFree : Block.reset.txFree = 0#32 := rfl
@[simp] theorem Block.reset_txQueued : Block.reset.txQueued = 0#32 := rfl
@[simp] theorem Block.reset_txBaseLo : Block.reset.txBaseLo = 0#32 := rfl
@[simp] theorem Block.reset_txBaseHi : Block.reset.txBaseHi = 0#32 := rfl
@[simp] theorem Block.reset_rxCur : Block.reset.rxCur = 0#32 := rfl
@[simp] theorem Block.reset_rxHeadLo : Block.reset.rxHeadLo = 0#32 := rfl
@[simp] theorem Block.reset_rxHeadHi : Block.reset.rxHeadHi = 0#32 := rfl
@[simp] theorem Block.reset_rxTailLo : Block.reset.rxTailLo = 0#32 := rfl
@[simp] theorem Block.reset_rxTailHi : Block.reset.rxTailHi = 0#32 := rfl
@[simp] theorem Block.reset_rxBaseLo : Block.reset.rxBaseLo = 0#32 := rfl
@[simp] theorem Block.reset_rxBaseHi : Block.reset.rxBaseHi = 0#32 := rfl
@[simp] theorem Block.reset_txRes : Block.reset.txRes = 0#32 := rfl
@[simp] theorem Block.reset_txFreeCnt : Block.reset.txFreeCnt = 0#32 := rfl
@[simp] theorem Block.reset_txInflCnt : Block.reset.txInflCnt = 0#32 := rfl
@[simp] theorem Block.reset_rxRes : Block.reset.rxRes = 0#32 := rfl
@[simp] theorem Block.reset_rxHeadIdx : Block.reset.rxHeadIdx = 0#32 := rfl
@[simp] theorem Block.reset_rxTailIdx : Block.reset.rxTailIdx = 0#32 := rfl
@[simp] theorem Block.reset_rxDevCnt : Block.reset.rxDevCnt = 0#32 := rfl
@[simp] theorem Block.reset_rxDrvCnt : Block.reset.rxDrvCnt = 0#32 := rfl
@[simp] theorem Block.reset_resultLo : Block.reset.resultLo = 0#32 := rfl
@[simp] theorem Block.reset_resultHi : Block.reset.resultHi = 0#32 := rfl
@[simp] theorem Block.reset_halt : Block.reset.halt = false := rfl
@[simp] theorem Block.reset_txValid : Block.reset.txValid = false := rfl
@[simp] theorem Block.reset_rxValid : Block.reset.rxValid = false := rfl
@[simp] theorem Block.reset_warnCnt : Block.reset.warnCnt = 0#32 := rfl
@[simp] theorem Block.reset_errInfo : Block.reset.errInfo = 0#32 := rfl
@[simp] theorem Block.reset_sCur : Block.reset.sCur = 0#32 := rfl
@[simp] theorem Block.reset_sDirty : Block.reset.sDirty = 0#32 := rfl

@[simp] theorem Block.storeTx_arg (c d res fc ic : Word) : (b.storeTx c d res fc ic).arg = b.arg := rfl
@[simp] theorem Block.storeTx_txCur (c d res fc ic : Word) : (b.storeTx c d res fc ic).txCur = b.txCur := rfl
@[simp] theorem Block.storeTx_txDirty (c d res fc ic : Word) : (b.storeTx c d res fc ic).txDirty = b.txDirty := rfl
@[simp] theorem Block.storeTx_txFree (c d res fc ic : Word) : (b.storeTx c d res fc ic).txFree = b.txFree := rfl
@[simp] theorem Block.storeTx_txQueued (c d res fc ic : Word) : (b.storeTx c d res fc ic).txQueued = b.txQueued := rfl
@[simp] theorem Block.storeTx_txBaseLo (c d res fc ic : Word) : (b.storeTx c d res fc ic).txBaseLo = b.txBaseLo := rfl
@[simp] theorem Block.storeTx_txBaseHi (c d res fc ic : Word) : (b.storeTx c d res fc ic).txBaseHi = b.txBaseHi := rfl
@[simp] theorem Block.storeTx_rxCur (c d res fc ic : Word) : (b.storeTx c d res fc ic).rxCur = b.rxCur := rfl
@[simp] theorem Block.storeTx_rxHeadLo (c d res fc ic : Word) : (b.storeTx c d res fc ic).rxHeadLo = b.rxHeadLo := rfl
@[simp] theorem Block.storeTx_rxHeadHi (c d res fc ic : Word) : (b.storeTx c d res fc ic).rxHeadHi = b.rxHeadHi := rfl
@[simp] theorem Block.storeTx_rxTailLo (c d res fc ic : Word) : (b.storeTx c d res fc ic).rxTailLo = b.rxTailLo := rfl
@[simp] theorem Block.storeTx_rxTailHi (c d res fc ic : Word) : (b.storeTx c d res fc ic).rxTailHi = b.rxTailHi := rfl
@[simp] theorem Block.storeTx_rxBaseLo (c d res fc ic : Word) : (b.storeTx c d res fc ic).rxBaseLo = b.rxBaseLo := rfl
@[simp] theorem Block.storeTx_rxBaseHi (c d res fc ic : Word) : (b.storeTx c d res fc ic).rxBaseHi = b.rxBaseHi := rfl
@[simp] theorem Block.storeTx_txRes (c d res fc ic : Word) : (b.storeTx c d res fc ic).txRes = res := rfl
@[simp] theorem Block.storeTx_txFreeCnt (c d res fc ic : Word) : (b.storeTx c d res fc ic).txFreeCnt = fc := rfl
@[simp] theorem Block.storeTx_txInflCnt (c d res fc ic : Word) : (b.storeTx c d res fc ic).txInflCnt = ic := rfl
@[simp] theorem Block.storeTx_rxRes (c d res fc ic : Word) : (b.storeTx c d res fc ic).rxRes = b.rxRes := rfl
@[simp] theorem Block.storeTx_rxHeadIdx (c d res fc ic : Word) : (b.storeTx c d res fc ic).rxHeadIdx = b.rxHeadIdx := rfl
@[simp] theorem Block.storeTx_rxTailIdx (c d res fc ic : Word) : (b.storeTx c d res fc ic).rxTailIdx = b.rxTailIdx := rfl
@[simp] theorem Block.storeTx_rxDevCnt (c d res fc ic : Word) : (b.storeTx c d res fc ic).rxDevCnt = b.rxDevCnt := rfl
@[simp] theorem Block.storeTx_rxDrvCnt (c d res fc ic : Word) : (b.storeTx c d res fc ic).rxDrvCnt = b.rxDrvCnt := rfl
@[simp] theorem Block.storeTx_resultLo (c d res fc ic : Word) : (b.storeTx c d res fc ic).resultLo = b.resultLo := rfl
@[simp] theorem Block.storeTx_resultHi (c d res fc ic : Word) : (b.storeTx c d res fc ic).resultHi = b.resultHi := rfl
@[simp] theorem Block.storeTx_halt (c d res fc ic : Word) : (b.storeTx c d res fc ic).halt = b.halt := rfl
@[simp] theorem Block.storeTx_txValid (c d res fc ic : Word) : (b.storeTx c d res fc ic).txValid = true := rfl
@[simp] theorem Block.storeTx_rxValid (c d res fc ic : Word) : (b.storeTx c d res fc ic).rxValid = b.rxValid := rfl
@[simp] theorem Block.storeTx_warnCnt (c d res fc ic : Word) : (b.storeTx c d res fc ic).warnCnt = b.warnCnt := rfl
@[simp] theorem Block.storeTx_errInfo (c d res fc ic : Word) : (b.storeTx c d res fc ic).errInfo = b.errInfo := rfl
@[simp] theorem Block.storeTx_sCur (c d res fc ic : Word) : (b.storeTx c d res fc ic).sCur = c := rfl
@[simp] theorem Block.storeTx_sDirty (c d res fc ic : Word) : (b.storeTx c d res fc ic).sDirty = d := rfl

@[simp] theorem Block.storeRx_arg (h t dev drv res : Word) : (b.storeRx h t dev drv res).arg = b.arg := rfl
@[simp] theorem Block.storeRx_txCur (h t dev drv res : Word) : (b.storeRx h t dev drv res).txCur = b.txCur := rfl
@[simp] theorem Block.storeRx_txDirty (h t dev drv res : Word) : (b.storeRx h t dev drv res).txDirty = b.txDirty := rfl
@[simp] theorem Block.storeRx_txFree (h t dev drv res : Word) : (b.storeRx h t dev drv res).txFree = b.txFree := rfl
@[simp] theorem Block.storeRx_txQueued (h t dev drv res : Word) : (b.storeRx h t dev drv res).txQueued = b.txQueued := rfl
@[simp] theorem Block.storeRx_txBaseLo (h t dev drv res : Word) : (b.storeRx h t dev drv res).txBaseLo = b.txBaseLo := rfl
@[simp] theorem Block.storeRx_txBaseHi (h t dev drv res : Word) : (b.storeRx h t dev drv res).txBaseHi = b.txBaseHi := rfl
@[simp] theorem Block.storeRx_rxCur (h t dev drv res : Word) : (b.storeRx h t dev drv res).rxCur = b.rxCur := rfl
@[simp] theorem Block.storeRx_rxHeadLo (h t dev drv res : Word) : (b.storeRx h t dev drv res).rxHeadLo = b.rxHeadLo := rfl
@[simp] theorem Block.storeRx_rxHeadHi (h t dev drv res : Word) : (b.storeRx h t dev drv res).rxHeadHi = b.rxHeadHi := rfl
@[simp] theorem Block.storeRx_rxTailLo (h t dev drv res : Word) : (b.storeRx h t dev drv res).rxTailLo = b.rxTailLo := rfl
@[simp] theorem Block.storeRx_rxTailHi (h t dev drv res : Word) : (b.storeRx h t dev drv res).rxTailHi = b.rxTailHi := rfl
@[simp] theorem Block.storeRx_rxBaseLo (h t dev drv res : Word) : (b.storeRx h t dev drv res).rxBaseLo = b.rxBaseLo := rfl
@[simp] theorem Block.storeRx_rxBaseHi (h t dev drv res : Word) : (b.storeRx h t dev drv res).rxBaseHi = b.rxBaseHi := rfl
@[simp] theorem Block.storeRx_txRes (h t dev drv res : Word) : (b.storeRx h t dev drv res).txRes = b.txRes := rfl
@[simp] theorem Block.storeRx_txFreeCnt (h t dev drv res : Word) : (b.storeRx h t dev drv res).txFreeCnt = b.txFreeCnt := rfl
@[simp] theorem Block.storeRx_txInflCnt (h t dev drv res : Word) : (b.storeRx h t dev drv res).txInflCnt = b.txInflCnt := rfl
@[simp] theorem Block.storeRx_rxRes (h t dev drv res : Word) : (b.storeRx h t dev drv res).rxRes = res := rfl
@[simp] theorem Block.storeRx_rxHeadIdx (h t dev drv res : Word) : (b.storeRx h t dev drv res).rxHeadIdx = h := rfl
@[simp] theorem Block.storeRx_rxTailIdx (h t dev drv res : Word) : (b.storeRx h t dev drv res).rxTailIdx = t := rfl
@[simp] theorem Block.storeRx_rxDevCnt (h t dev drv res : Word) : (b.storeRx h t dev drv res).rxDevCnt = dev := rfl
@[simp] theorem Block.storeRx_rxDrvCnt (h t dev drv res : Word) : (b.storeRx h t dev drv res).rxDrvCnt = drv := rfl
@[simp] theorem Block.storeRx_resultLo (h t dev drv res : Word) : (b.storeRx h t dev drv res).resultLo = b.resultLo := rfl
@[simp] theorem Block.storeRx_resultHi (h t dev drv res : Word) : (b.storeRx h t dev drv res).resultHi = b.resultHi := rfl
@[simp] theorem Block.storeRx_halt (h t dev drv res : Word) : (b.storeRx h t dev drv res).halt = b.halt := rfl
@[simp] theorem Block.storeRx_txValid (h t dev drv res : Word) : (b.storeRx h t dev drv res).txValid = b.txValid := rfl
@[simp] theorem Block.storeRx_rxValid (h t dev drv res : Word) : (b.storeRx h t dev drv res).rxValid = true := rfl
@[simp] theorem Block.storeRx_warnCnt (h t dev drv res : Word) : (b.storeRx h t dev drv res).warnCnt = b.warnCnt := rfl
@[simp] theorem Block.storeRx_errInfo (h t dev drv res : Word) : (b.storeRx h t dev drv res).errInfo = b.errInfo := rfl
@[simp] theorem Block.storeRx_sCur (h t dev drv res : Word) : (b.storeRx h t dev drv res).sCur = b.sCur := rfl
@[simp] theorem Block.storeRx_sDirty (h t dev drv res : Word) : (b.storeRx h t dev drv res).sDirty = b.sDirty := rfl

@[simp] theorem Block.storeResult_arg (lo hi : Word) : (b.storeResult lo hi).arg = b.arg := rfl
@[simp] theorem Block.storeResult_txCur (lo hi : Word) : (b.storeResult lo hi).txCur = b.txCur := rfl
@[simp] theorem Block.storeResult_txDirty (lo hi : Word) : (b.storeResult lo hi).txDirty = b.txDirty := rfl
@[simp] theorem Block.storeResult_txFree (lo hi : Word) : (b.storeResult lo hi).txFree = b.txFree := rfl
@[simp] theorem Block.storeResult_txQueued (lo hi : Word) : (b.storeResult lo hi).txQueued = b.txQueued := rfl
@[simp] theorem Block.storeResult_txBaseLo (lo hi : Word) : (b.storeResult lo hi).txBaseLo = b.txBaseLo := rfl
@[simp] theorem Block.storeResult_txBaseHi (lo hi : Word) : (b.storeResult lo hi).txBaseHi = b.txBaseHi := rfl
@[simp] theorem Block.storeResult_rxCur (lo hi : Word) : (b.storeResult lo hi).rxCur = b.rxCur := rfl
@[simp] theorem Block.storeResult_rxHeadLo (lo hi : Word) : (b.storeResult lo hi).rxHeadLo = b.rxHeadLo := rfl
@[simp] theorem Block.storeResult_rxHeadHi (lo hi : Word) : (b.storeResult lo hi).rxHeadHi = b.rxHeadHi := rfl
@[simp] theorem Block.storeResult_rxTailLo (lo hi : Word) : (b.storeResult lo hi).rxTailLo = b.rxTailLo := rfl
@[simp] theorem Block.storeResult_rxTailHi (lo hi : Word) : (b.storeResult lo hi).rxTailHi = b.rxTailHi := rfl
@[simp] theorem Block.storeResult_rxBaseLo (lo hi : Word) : (b.storeResult lo hi).rxBaseLo = b.rxBaseLo := rfl
@[simp] theorem Block.storeResult_rxBaseHi (lo hi : Word) : (b.storeResult lo hi).rxBaseHi = b.rxBaseHi := rfl
@[simp] theorem Block.storeResult_txRes (lo hi : Word) : (b.storeResult lo hi).txRes = b.txRes := rfl
@[simp] theorem Block.storeResult_txFreeCnt (lo hi : Word) : (b.storeResult lo hi).txFreeCnt = b.txFreeCnt := rfl
@[simp] theorem Block.storeResult_txInflCnt (lo hi : Word) : (b.storeResult lo hi).txInflCnt = b.txInflCnt := rfl
@[simp] theorem Block.storeResult_rxRes (lo hi : Word) : (b.storeResult lo hi).rxRes = b.rxRes := rfl
@[simp] theorem Block.storeResult_rxHeadIdx (lo hi : Word) : (b.storeResult lo hi).rxHeadIdx = b.rxHeadIdx := rfl
@[simp] theorem Block.storeResult_rxTailIdx (lo hi : Word) : (b.storeResult lo hi).rxTailIdx = b.rxTailIdx := rfl
@[simp] theorem Block.storeResult_rxDevCnt (lo hi : Word) : (b.storeResult lo hi).rxDevCnt = b.rxDevCnt := rfl
@[simp] theorem Block.storeResult_rxDrvCnt (lo hi : Word) : (b.storeResult lo hi).rxDrvCnt = b.rxDrvCnt := rfl
@[simp] theorem Block.storeResult_resultLo (lo hi : Word) : (b.storeResult lo hi).resultLo = lo := rfl
@[simp] theorem Block.storeResult_resultHi (lo hi : Word) : (b.storeResult lo hi).resultHi = hi := rfl
@[simp] theorem Block.storeResult_halt (lo hi : Word) : (b.storeResult lo hi).halt = b.halt := rfl
@[simp] theorem Block.storeResult_txValid (lo hi : Word) : (b.storeResult lo hi).txValid = b.txValid := rfl
@[simp] theorem Block.storeResult_rxValid (lo hi : Word) : (b.storeResult lo hi).rxValid = b.rxValid := rfl
@[simp] theorem Block.storeResult_warnCnt (lo hi : Word) : (b.storeResult lo hi).warnCnt = b.warnCnt := rfl
@[simp] theorem Block.storeResult_errInfo (lo hi : Word) : (b.storeResult lo hi).errInfo = b.errInfo := rfl
@[simp] theorem Block.storeResult_sCur (lo hi : Word) : (b.storeResult lo hi).sCur = b.sCur := rfl
@[simp] theorem Block.storeResult_sDirty (lo hi : Word) : (b.storeResult lo hi).sDirty = b.sDirty := rfl

@[simp] theorem Block.warn_arg : (b.warn).arg = b.arg := rfl
@[simp] theorem Block.warn_txCur : (b.warn).txCur = b.txCur := rfl
@[simp] theorem Block.warn_txDirty : (b.warn).txDirty = b.txDirty := rfl
@[simp] theorem Block.warn_txFree : (b.warn).txFree = b.txFree := rfl
@[simp] theorem Block.warn_txQueued : (b.warn).txQueued = b.txQueued := rfl
@[simp] theorem Block.warn_txBaseLo : (b.warn).txBaseLo = b.txBaseLo := rfl
@[simp] theorem Block.warn_txBaseHi : (b.warn).txBaseHi = b.txBaseHi := rfl
@[simp] theorem Block.warn_rxCur : (b.warn).rxCur = b.rxCur := rfl
@[simp] theorem Block.warn_rxHeadLo : (b.warn).rxHeadLo = b.rxHeadLo := rfl
@[simp] theorem Block.warn_rxHeadHi : (b.warn).rxHeadHi = b.rxHeadHi := rfl
@[simp] theorem Block.warn_rxTailLo : (b.warn).rxTailLo = b.rxTailLo := rfl
@[simp] theorem Block.warn_rxTailHi : (b.warn).rxTailHi = b.rxTailHi := rfl
@[simp] theorem Block.warn_rxBaseLo : (b.warn).rxBaseLo = b.rxBaseLo := rfl
@[simp] theorem Block.warn_rxBaseHi : (b.warn).rxBaseHi = b.rxBaseHi := rfl
@[simp] theorem Block.warn_txRes : (b.warn).txRes = b.txRes := rfl
@[simp] theorem Block.warn_txFreeCnt : (b.warn).txFreeCnt = b.txFreeCnt := rfl
@[simp] theorem Block.warn_txInflCnt : (b.warn).txInflCnt = b.txInflCnt := rfl
@[simp] theorem Block.warn_rxRes : (b.warn).rxRes = b.rxRes := rfl
@[simp] theorem Block.warn_rxHeadIdx : (b.warn).rxHeadIdx = b.rxHeadIdx := rfl
@[simp] theorem Block.warn_rxTailIdx : (b.warn).rxTailIdx = b.rxTailIdx := rfl
@[simp] theorem Block.warn_rxDevCnt : (b.warn).rxDevCnt = b.rxDevCnt := rfl
@[simp] theorem Block.warn_rxDrvCnt : (b.warn).rxDrvCnt = b.rxDrvCnt := rfl
@[simp] theorem Block.warn_resultLo : (b.warn).resultLo = b.resultLo := rfl
@[simp] theorem Block.warn_resultHi : (b.warn).resultHi = b.resultHi := rfl
@[simp] theorem Block.warn_halt : (b.warn).halt = b.halt := rfl
@[simp] theorem Block.warn_txValid : (b.warn).txValid = b.txValid := rfl
@[simp] theorem Block.warn_rxValid : (b.warn).rxValid = b.rxValid := rfl
@[simp] theorem Block.warn_warnCnt : (b.warn).warnCnt = warnCntSucc b.warnCnt := rfl
@[simp] theorem Block.warn_errInfo : (b.warn).errInfo = b.errInfo := rfl
@[simp] theorem Block.warn_sCur : (b.warn).sCur = b.sCur := rfl
@[simp] theorem Block.warn_sDirty : (b.warn).sDirty = b.sDirty := rfl

@[simp] theorem Block.clearWarn_arg : (b.clearWarn).arg = b.arg := rfl
@[simp] theorem Block.clearWarn_txCur : (b.clearWarn).txCur = b.txCur := rfl
@[simp] theorem Block.clearWarn_txDirty : (b.clearWarn).txDirty = b.txDirty := rfl
@[simp] theorem Block.clearWarn_txFree : (b.clearWarn).txFree = b.txFree := rfl
@[simp] theorem Block.clearWarn_txQueued : (b.clearWarn).txQueued = b.txQueued := rfl
@[simp] theorem Block.clearWarn_txBaseLo : (b.clearWarn).txBaseLo = b.txBaseLo := rfl
@[simp] theorem Block.clearWarn_txBaseHi : (b.clearWarn).txBaseHi = b.txBaseHi := rfl
@[simp] theorem Block.clearWarn_rxCur : (b.clearWarn).rxCur = b.rxCur := rfl
@[simp] theorem Block.clearWarn_rxHeadLo : (b.clearWarn).rxHeadLo = b.rxHeadLo := rfl
@[simp] theorem Block.clearWarn_rxHeadHi : (b.clearWarn).rxHeadHi = b.rxHeadHi := rfl
@[simp] theorem Block.clearWarn_rxTailLo : (b.clearWarn).rxTailLo = b.rxTailLo := rfl
@[simp] theorem Block.clearWarn_rxTailHi : (b.clearWarn).rxTailHi = b.rxTailHi := rfl
@[simp] theorem Block.clearWarn_rxBaseLo : (b.clearWarn).rxBaseLo = b.rxBaseLo := rfl
@[simp] theorem Block.clearWarn_rxBaseHi : (b.clearWarn).rxBaseHi = b.rxBaseHi := rfl
@[simp] theorem Block.clearWarn_txRes : (b.clearWarn).txRes = b.txRes := rfl
@[simp] theorem Block.clearWarn_txFreeCnt : (b.clearWarn).txFreeCnt = b.txFreeCnt := rfl
@[simp] theorem Block.clearWarn_txInflCnt : (b.clearWarn).txInflCnt = b.txInflCnt := rfl
@[simp] theorem Block.clearWarn_rxRes : (b.clearWarn).rxRes = b.rxRes := rfl
@[simp] theorem Block.clearWarn_rxHeadIdx : (b.clearWarn).rxHeadIdx = b.rxHeadIdx := rfl
@[simp] theorem Block.clearWarn_rxTailIdx : (b.clearWarn).rxTailIdx = b.rxTailIdx := rfl
@[simp] theorem Block.clearWarn_rxDevCnt : (b.clearWarn).rxDevCnt = b.rxDevCnt := rfl
@[simp] theorem Block.clearWarn_rxDrvCnt : (b.clearWarn).rxDrvCnt = b.rxDrvCnt := rfl
@[simp] theorem Block.clearWarn_resultLo : (b.clearWarn).resultLo = b.resultLo := rfl
@[simp] theorem Block.clearWarn_resultHi : (b.clearWarn).resultHi = b.resultHi := rfl
@[simp] theorem Block.clearWarn_halt : (b.clearWarn).halt = b.halt := rfl
@[simp] theorem Block.clearWarn_txValid : (b.clearWarn).txValid = b.txValid := rfl
@[simp] theorem Block.clearWarn_rxValid : (b.clearWarn).rxValid = b.rxValid := rfl
@[simp] theorem Block.clearWarn_warnCnt : (b.clearWarn).warnCnt = 0#32 := rfl
@[simp] theorem Block.clearWarn_errInfo : (b.clearWarn).errInfo = b.errInfo := rfl
@[simp] theorem Block.clearWarn_sCur : (b.clearWarn).sCur = b.sCur := rfl
@[simp] theorem Block.clearWarn_sDirty : (b.clearWarn).sDirty = b.sDirty := rfl

@[simp] theorem Block.enterFatal_arg (op : BitVec 4) (e : FatalError) : (b.enterFatal op e).arg = b.arg := rfl
@[simp] theorem Block.enterFatal_txCur (op : BitVec 4) (e : FatalError) : (b.enterFatal op e).txCur = b.txCur := rfl
@[simp] theorem Block.enterFatal_txDirty (op : BitVec 4) (e : FatalError) : (b.enterFatal op e).txDirty = b.txDirty := rfl
@[simp] theorem Block.enterFatal_txFree (op : BitVec 4) (e : FatalError) : (b.enterFatal op e).txFree = b.txFree := rfl
@[simp] theorem Block.enterFatal_txQueued (op : BitVec 4) (e : FatalError) : (b.enterFatal op e).txQueued = b.txQueued := rfl
@[simp] theorem Block.enterFatal_txBaseLo (op : BitVec 4) (e : FatalError) : (b.enterFatal op e).txBaseLo = b.txBaseLo := rfl
@[simp] theorem Block.enterFatal_txBaseHi (op : BitVec 4) (e : FatalError) : (b.enterFatal op e).txBaseHi = b.txBaseHi := rfl
@[simp] theorem Block.enterFatal_rxCur (op : BitVec 4) (e : FatalError) : (b.enterFatal op e).rxCur = b.rxCur := rfl
@[simp] theorem Block.enterFatal_rxHeadLo (op : BitVec 4) (e : FatalError) : (b.enterFatal op e).rxHeadLo = b.rxHeadLo := rfl
@[simp] theorem Block.enterFatal_rxHeadHi (op : BitVec 4) (e : FatalError) : (b.enterFatal op e).rxHeadHi = b.rxHeadHi := rfl
@[simp] theorem Block.enterFatal_rxTailLo (op : BitVec 4) (e : FatalError) : (b.enterFatal op e).rxTailLo = b.rxTailLo := rfl
@[simp] theorem Block.enterFatal_rxTailHi (op : BitVec 4) (e : FatalError) : (b.enterFatal op e).rxTailHi = b.rxTailHi := rfl
@[simp] theorem Block.enterFatal_rxBaseLo (op : BitVec 4) (e : FatalError) : (b.enterFatal op e).rxBaseLo = b.rxBaseLo := rfl
@[simp] theorem Block.enterFatal_rxBaseHi (op : BitVec 4) (e : FatalError) : (b.enterFatal op e).rxBaseHi = b.rxBaseHi := rfl
@[simp] theorem Block.enterFatal_txRes (op : BitVec 4) (e : FatalError) : (b.enterFatal op e).txRes = b.txRes := rfl
@[simp] theorem Block.enterFatal_txFreeCnt (op : BitVec 4) (e : FatalError) : (b.enterFatal op e).txFreeCnt = b.txFreeCnt := rfl
@[simp] theorem Block.enterFatal_txInflCnt (op : BitVec 4) (e : FatalError) : (b.enterFatal op e).txInflCnt = b.txInflCnt := rfl
@[simp] theorem Block.enterFatal_rxRes (op : BitVec 4) (e : FatalError) : (b.enterFatal op e).rxRes = b.rxRes := rfl
@[simp] theorem Block.enterFatal_rxHeadIdx (op : BitVec 4) (e : FatalError) : (b.enterFatal op e).rxHeadIdx = b.rxHeadIdx := rfl
@[simp] theorem Block.enterFatal_rxTailIdx (op : BitVec 4) (e : FatalError) : (b.enterFatal op e).rxTailIdx = b.rxTailIdx := rfl
@[simp] theorem Block.enterFatal_rxDevCnt (op : BitVec 4) (e : FatalError) : (b.enterFatal op e).rxDevCnt = b.rxDevCnt := rfl
@[simp] theorem Block.enterFatal_rxDrvCnt (op : BitVec 4) (e : FatalError) : (b.enterFatal op e).rxDrvCnt = b.rxDrvCnt := rfl
@[simp] theorem Block.enterFatal_resultLo (op : BitVec 4) (e : FatalError) : (b.enterFatal op e).resultLo = b.resultLo := rfl
@[simp] theorem Block.enterFatal_resultHi (op : BitVec 4) (e : FatalError) : (b.enterFatal op e).resultHi = b.resultHi := rfl
@[simp] theorem Block.enterFatal_halt (op : BitVec 4) (e : FatalError) : (b.enterFatal op e).halt = true := rfl
@[simp] theorem Block.enterFatal_txValid (op : BitVec 4) (e : FatalError) : (b.enterFatal op e).txValid = b.txValid := rfl
@[simp] theorem Block.enterFatal_rxValid (op : BitVec 4) (e : FatalError) : (b.enterFatal op e).rxValid = b.rxValid := rfl
@[simp] theorem Block.enterFatal_warnCnt (op : BitVec 4) (e : FatalError) : (b.enterFatal op e).warnCnt = b.warnCnt := rfl
@[simp] theorem Block.enterFatal_errInfo (op : BitVec 4) (e : FatalError) : (b.enterFatal op e).errInfo = errInfoWord e.code op e.which := rfl
@[simp] theorem Block.enterFatal_sCur (op : BitVec 4) (e : FatalError) : (b.enterFatal op e).sCur = b.sCur := rfl
@[simp] theorem Block.enterFatal_sDirty (op : BitVec 4) (e : FatalError) : (b.enterFatal op e).sDirty = b.sDirty := rfl

end

end Sys2Proof.Machine
end

