-- ==== Sys2Proof/Laws/Ops.lean ====
section
/-! SUPPORT. What a command can do, said once: `runBody` and `exec` against the command's body. -/

namespace Sys2Proof.Machine

section
variable {op : BitVec 4} {body : Config → Block → Except FatalError Block} {s t : State}

theorem runBody_halted (h : s.blk.halt = true) : runBody op body s = .next s := by simp [runBody, h]

theorem runBody_ok {b : Block} (h : s.blk.halt = false) (hb : body s.cfg s.blk = .ok b) :
    runBody op body s = .next (s.withBlk b) := by simp [runBody, h, hb]

theorem runBody_error {e : FatalError} (h : s.blk.halt = false) (hb : body s.cfg s.blk = .error e) :
    runBody op body s = .next (s.withBlk (s.blk.enterFatal op e)) := by simp [runBody, h, hb]

/-- Everything a command's run can do: ignored, completed, or Fatal. It always answers a next state. -/
theorem runBody_cases (op : BitVec 4) (body : Config → Block → Except FatalError Block) (s : State) :
    (s.blk.halt = true ∧ runBody op body s = .next s) ∨
    (∃ b, s.blk.halt = false ∧ body s.cfg s.blk = .ok b ∧ runBody op body s = .next (s.withBlk b)) ∨
    (∃ e, s.blk.halt = false ∧ body s.cfg s.blk = .error e ∧
      runBody op body s = .next (s.withBlk (s.blk.enterFatal op e))) := by
  cases h : s.blk.halt with
  | true => exact .inl ⟨rfl, runBody_halted h⟩
  | false =>
    cases hb : body s.cfg s.blk with
    | ok b => exact .inr (.inl ⟨b, rfl, rfl, runBody_ok h hb⟩)
    | error e => exact .inr (.inr ⟨e, rfl, rfl, runBody_error h hb⟩)

end

/-- The body of each command; SRST's always completes. -/
def bodyOf : Instr → Config → Block → Except FatalError Block
  | .nop => fun _ b => .ok b
  | .txEval => txEvalBody
  | .txFreeAt => txFreeAtBody
  | .txInflAt => txInflAtBody
  | .rxEval => rxEvalBody
  | .txDescAddr => fun c b => descAddrBody c.nTx .txBase c b
  | .rxDescAddr => fun c b => descAddrBody c.nRx .rxBase c b
  | .clrWarn => fun _ b => .ok b.clearWarn
  | .srst => fun _ _ => .ok Block.reset

theorem exec_eq_runBody {i : Instr} (h : i ≠ .srst) (s : State) :
    exec i s = runBody (opField (encode i)) (bodyOf i) s := by
  cases i <;> first | rfl | exact absurd rfl h

theorem exec_srst (s : State) : exec .srst s = .next (softReset s) := rfl

/-- Everything `exec` can do: SRST resets; any other command is ignored while halted, completes, or takes its Fatal. -/
theorem exec_cases (i : Instr) (s : State) :
    (i = .srst ∧ exec i s = .next (softReset s)) ∨
    (i ≠ .srst ∧ s.blk.halt = true ∧ exec i s = .next s) ∨
    (∃ b, i ≠ .srst ∧ s.blk.halt = false ∧ bodyOf i s.cfg s.blk = .ok b ∧ exec i s = .next (s.withBlk b)) ∨
    (∃ e, i ≠ .srst ∧ s.blk.halt = false ∧ bodyOf i s.cfg s.blk = .error e ∧
      exec i s = .next (s.withBlk (s.blk.enterFatal (opField (encode i)) e))) := by
  by_cases h : i = .srst
  · subst h; exact .inl ⟨rfl, exec_srst s⟩
  · rw [exec_eq_runBody h]
    rcases runBody_cases (opField (encode i)) (bodyOf i) s with ⟨h1, h2⟩ | ⟨b, h1, h2, h3⟩ | ⟨e, h1, h2, h3⟩
    · exact .inr (.inl ⟨h, h1, h2⟩)
    · exact .inr (.inr (.inl ⟨b, h, h1, h2, h3⟩))
    · exact .inr (.inr (.inr ⟨e, h, h1, h2, h3⟩))

end Sys2Proof.Machine
end

