-- ==== Sys2Proof/Laws/PerInstr.lean ====
section
/-! SUPPORT. Per-command laws of the syntax. -/

/-- The reserved bits of every command word are 0 (30_encoding.md R81). -/
def Sys2Proof.Laws.ReservedBitsClear.Statement (i : Sys2Proof.Instr) : Prop :=
  Sys2Proof.rsvdField (Sys2Proof.encode i) = 0#28

theorem Sys2Proof.Laws.ReservedBitsClear.nop : Sys2Proof.Laws.ReservedBitsClear.Statement .nop := rfl
theorem Sys2Proof.Laws.ReservedBitsClear.txEval : Sys2Proof.Laws.ReservedBitsClear.Statement .txEval := rfl
theorem Sys2Proof.Laws.ReservedBitsClear.txFreeAt : Sys2Proof.Laws.ReservedBitsClear.Statement .txFreeAt := rfl
theorem Sys2Proof.Laws.ReservedBitsClear.txInflAt : Sys2Proof.Laws.ReservedBitsClear.Statement .txInflAt := rfl
theorem Sys2Proof.Laws.ReservedBitsClear.rxEval : Sys2Proof.Laws.ReservedBitsClear.Statement .rxEval := rfl
theorem Sys2Proof.Laws.ReservedBitsClear.txDescAddr : Sys2Proof.Laws.ReservedBitsClear.Statement .txDescAddr := rfl
theorem Sys2Proof.Laws.ReservedBitsClear.rxDescAddr : Sys2Proof.Laws.ReservedBitsClear.Statement .rxDescAddr := rfl
theorem Sys2Proof.Laws.ReservedBitsClear.clrWarn : Sys2Proof.Laws.ReservedBitsClear.Statement .clrWarn := rfl
theorem Sys2Proof.Laws.ReservedBitsClear.srst : Sys2Proof.Laws.ReservedBitsClear.Statement .srst := rfl
end

