-- ==== Sys2Proof/Laws/Port.lean ====
section
/-! SUPPORT. What a step can do, said once: the allowed accesses and the shape of each event. -/

namespace Sys2Proof.Machine

theorem windowOffset_eq_some_iff {c : Config} {addr n off : Nat} :
    windowOffset c addr n = some off ↔ n = 4 ∧ addr = c.blockBase + off ∧ off < 256 ∧ off % 4 = 0 := by
  unfold windowOffset
  split
  · next h =>
    obtain ⟨h1, h2, h3, h4⟩ := h
    simp only [Option.some.injEq]
    constructor
    · rintro rfl; exact ⟨h1, by omega, h3, h4⟩
    · rintro ⟨-, h, -, -⟩; omega
  · next h =>
    constructor
    · intro h'; cases h'
    · rintro ⟨h1, h2, h3, h4⟩
      exact absurd ⟨h1, by omega, by omega, by rw [h2, Nat.add_sub_cancel_left]; exact h4⟩ h

/-- An aligned 32-bit access at window offset `off` is allowed (20_memory.md R65). -/
theorem windowOffset_base_add {c : Config} {off : Nat} (h : off < 256) (h4 : off % 4 = 0) :
    windowOffset c (c.blockBase + off) 4 = some off := windowOffset_eq_some_iff.mpr ⟨rfl, rfl, h, h4⟩

theorem step_idle {s : State} (h : s.pending = []) : step s = .next s := by simp [step, serveNext, h]

theorem step_cons {s : State} {e : Event} {rest : List Event} (h : s.pending = e :: rest) :
    step s = serveEvent e (s.withPending rest) := by simp [step, serveNext, h]

/-- A read at an allowed offset answers the register's value and changes nothing else (20_memory.md R62). -/
theorem serveEvent_read {s : State} {a off : Nat} (h : windowOffset s.cfg a 4 = some off) :
    serveEvent (.access (.read a 4)) s = .next (s.withReply (.data (readOffset s.cfg s.blk off))) := by
  simp [serveEvent, serveAccess, accessAddr, accessWidth, h]

/-- A write at an allowed offset other than `CMD`'s (20_memory.md R63). -/
theorem serveEvent_write {s : State} {a off : Nat} {v : Word} (h : windowOffset s.cfg a 4 = some off) (h0 : off ≠ 0) :
    serveEvent (.access (.write a 4 v)) s =
      .next ((s.withReply .stored).withBlk (writeOffset s.cfg s.blk off v)) := by
  have : off ≠ regOffset .cmd := h0
  simp [serveEvent, serveAccess, accessAddr, accessWidth, h, writeWindow, this]

/-- A write to `CMD` runs its word (30_encoding.md R80). -/
theorem serveEvent_cmd {s : State} {w : Word} :
    serveEvent (cmdWrite s.cfg w) s = runWord w (s.withReply .stored) := by
  have : windowOffset s.cfg (s.cfg.blockBase + regOffset .cmd) 4 = some (regOffset .cmd) :=
    windowOffset_base_add (by decide) (by decide)
  simp [cmdWrite, serveEvent, serveAccess, accessAddr, accessWidth, this, writeWindow]

/-- Everything one event can do. -/
theorem serveEvent_cases (e : Event) (s : State) :
    (e = .hwReset ∧ serveEvent e s = .next ((softReset s).withReply .none)) ∨
    (∃ a, e = .access a ∧ windowOffset s.cfg (accessAddr a) (accessWidth a) = none ∧
      serveEvent e s = .fault (.busError a)) ∨
    (∃ a off, e = .access (.read a 4) ∧ windowOffset s.cfg a 4 = some off ∧
      serveEvent e s = .next (s.withReply (.data (readOffset s.cfg s.blk off)))) ∨
    (∃ a off v, e = .access (.write a 4 v) ∧ windowOffset s.cfg a 4 = some off ∧ off ≠ 0 ∧
      serveEvent e s = .next ((s.withReply .stored).withBlk (writeOffset s.cfg s.blk off v))) ∨
    (∃ w, e = cmdWrite s.cfg w ∧ serveEvent e s = runWord w (s.withReply .stored)) := by
  cases e with
  | hwReset => exact .inl ⟨rfl, rfl⟩
  | access a =>
    cases h : windowOffset s.cfg (accessAddr a) (accessWidth a) with
    | none => exact .inr (.inl ⟨a, rfl, h, by simp [serveEvent, serveAccess, h]⟩)
    | some off =>
      have h4 := (windowOffset_eq_some_iff.mp h).1
      cases a with
      | read ad n =>
        simp only [accessWidth] at h4; subst h4
        exact .inr (.inr (.inl ⟨ad, off, rfl, h, serveEvent_read h⟩))
      | write ad n v =>
        simp only [accessWidth] at h4; subst h4
        by_cases h0 : off = 0
        · subst h0
          have had : ad = s.cfg.blockBase + 0 := (windowOffset_eq_some_iff.mp h).2.1
          subst had
          exact .inr (.inr (.inr (.inr ⟨v, rfl, serveEvent_cmd⟩)))
        · exact .inr (.inr (.inr (.inl ⟨ad, off, v, rfl, h, h0, serveEvent_write h h0⟩)))

@[simp] theorem regAt_regOffset_ne_none (r : Reg) : (regAt (regOffset r)).isSome = true := by cases r <;> rfl

end Sys2Proof.Machine
end

