-- ==== Sys2Proof/Laws/Ring.lean ====
section
/-! SUPPORT. Modular differences (00_scope.md R12) and the ring lists against their closed forms (40_tx_tracker.md R101,
R102, R104). -/

namespace Sys2Proof.Machine

theorem subMod_of_le {a b m : Nat} (h : b ≤ a) (ha : a - b < m) : subMod a b m = a - b := by
  unfold subMod
  rw [← Int.ofNat_sub h, ← Int.natCast_mod, Int.toNat_natCast, Nat.mod_eq_of_lt ha]

theorem subMod_of_lt {a b m : Nat} (h : a < b) (hb : b - a ≤ m) : subMod a b m = m + a - b := by
  unfold subMod
  have e : ((a : Int) - (b : Int)) % (m : Int) = ((m + a - b : Nat) : Int) := by
    have : ((a : Int) - (b : Int)) = ((m + a - b : Nat) : Int) + (m : Int) * (-1) := by omega
    rw [this, Int.add_mul_emod_self_left]
    exact Int.emod_eq_of_lt (by omega) (by omega)
  rw [e, Int.toNat_natCast]

theorem subMod_lt (a b : Nat) {m : Nat} (h : 0 < m) : subMod a b m < m := by
  unfold subMod
  have h1 := Int.emod_nonneg ((a : Int) - b) (b := (m : Int)) (by omega)
  have h2 := Int.emod_lt_of_pos ((a : Int) - b) (b := (m : Int)) (by omega)
  omega

@[simp] theorem subMod_self (a m : Nat) : subMod a a m = 0 := by simp [subMod]

theorem walk_length {s e n : Nat} (hs : s < n) (he : e < n) : (walk s e n).length = subMod e s n := by
  unfold walk
  split
  · next h => rw [subMod_of_lt h (by omega)]; simp; omega
  · next h => rw [subMod_of_le (by omega) (by omega)]; simp

theorem walk_getElem? {s e n j : Nat} (hs : s < n) (he : e < n) (hj : j < subMod e s n) :
    (walk s e n)[j]? = some ((s + j) % n) := by
  unfold walk
  split
  · next h =>
    rw [subMod_of_lt h (by omega)] at hj
    rw [List.getElem?_append, List.length_range']
    split
    · rw [List.getElem?_range' (by omega), Nat.mod_eq_of_lt (by omega), one_mul]
    · rw [List.getElem?_range' (by omega), Nat.mod_eq_sub_mod (by omega), Nat.mod_eq_of_lt (by omega)]
      congr 1; omega
  · next h =>
    rw [subMod_of_le (by omega) (by omega)] at hj
    rw [List.getElem?_range' (by omega), Nat.mod_eq_of_lt (by omega), one_mul]

@[simp] theorem fullRing_length (s n : Nat) : (fullRing s n).length = n := by simp [fullRing]

theorem fullRing_getElem? {s n j : Nat} (hj : j < n) : (fullRing s n)[j]? = some ((s + j) % n) := by
  simp [fullRing, List.getElem?_range hj]

/-- The free list is as long as its closed form says (R104's table). -/
theorem freeList_length {c d n : Nat} (k : TxCase) (hc : c < n) (hd : d < n) :
    (freeList c d k n).length = freeLen c d k n := by
  cases k <;> simp [freeList, freeLen, walk_length hc hd]

/-- The in-flight list is as long as its closed form says (R104's table). -/
theorem inflList_length {c d n : Nat} (k : TxCase) (hc : c < n) (hd : d < n) :
    (inflList c d k n).length = inflLen c d k n := by
  cases k <;> simp [inflList, inflLen, walk_length hd hc]

/-- Wherever a free-list entry exists, it is `(c + j) mod N` (R104). -/
theorem freeList_getElem? {c d n j : Nat} (k : TxCase) (hc : c < n) (hd : d < n) (hj : j < freeLen c d k n) :
    (freeList c d k n)[j]? = some (ringEntry c j n) := by
  cases k
  · simp [freeLen] at hj
  · exact fullRing_getElem? hj
  · simp [freeLen] at hj
  · exact walk_getElem? hc hd hj

/-- Wherever an in-flight entry exists, it is `(d + j) mod N` (R104). -/
theorem inflList_getElem? {c d n j : Nat} (k : TxCase) (hc : c < n) (hd : d < n) (hj : j < inflLen c d k n) :
    (inflList c d k n)[j]? = some (ringEntry d j n) := by
  cases k
  · simp [inflLen] at hj
  · simp [inflLen] at hj
  · exact fullRing_getElem? hj
  · exact walk_getElem? hd hc hj

theorem freeLen_le {c d n : Nat} (k : TxCase) (hn : 0 < n) : freeLen c d k n ≤ n := by
  have := subMod_lt d c hn
  cases k <;> simp [freeLen]; omega

theorem inflLen_le {c d n : Nat} (k : TxCase) (hn : 0 < n) : inflLen c d k n ≤ n := by
  have := subMod_lt c d hn
  cases k <;> simp [inflLen]; omega

theorem ringEntry_lt (start j : Nat) {n : Nat} (hn : 0 < n) : ringEntry start j n < n := Nat.mod_lt _ hn

end Sys2Proof.Machine
end

