-- ==== Sys2Proof/Laws/Run.lean ====
section
/-! SUPPORT. Runs, one step at a time. -/

namespace Sys2Proof.Machine

section
variable {k : Nat} {s t : State}

@[simp] theorem runSteps_zero : runSteps 0 s = .next s := rfl

theorem runSteps_succ_next (h : step s = .next t) : runSteps (k + 1) s = runSteps k t := by simp [runSteps, h]

theorem runSteps_succ_fault {f : Fault} (h : step s = .fault f) : runSteps (k + 1) s = .fault f := by
  simp [runSteps, h]

theorem runSteps_succ_refused {r : Refusal} (h : step s = .refused r) : runSteps (k + 1) s = .refused r := by
  simp [runSteps, h]

theorem core_run_succ (M : Host.Core) (k : Nat) (s : M.State) :
    (∀ t, M.step s = .next t → M.run (k + 1) s = M.run k t) ∧
    (∀ f, M.step s = .fault f → M.run (k + 1) s = .fault f) ∧
    (∀ r, M.step s = .refused r → M.run (k + 1) s = .refused r) := by
  refine ⟨fun t h => ?_, fun f h => ?_, fun r h => ?_⟩ <;> simp [Host.Core.run, h]

/-- `runSteps` is the host's own run of the machine. -/
theorem core_run_eq_runSteps (k : Nat) (s : State) : Sys2Proof.core.run k s = runSteps k s := by
  induction k generalizing s with
  | zero => rfl
  | succ k ih =>
    obtain ⟨hn, hf, hr⟩ := core_run_succ Sys2Proof.core k s
    cases h : step s with
    | next t => exact (hn t h).trans ((ih t).trans (runSteps_succ_next h).symm)
    | fault f => exact (hf f h).trans (runSteps_succ_fault h).symm
    | refused r => exact (hr r h).trans (runSteps_succ_refused h).symm

end

end Sys2Proof.Machine
end

