-- ==== Sys2Proof/Tests/Slice0.lean ====
section
/-! SUPPORT. The model's own tests. Expected values come from spec/95_test_vectors.md (the vector's id stands beside each
test) or, for the decode tests, from the bit patterns of spec/opcode_table.json. Each `witness_` theorem shows that the
hypotheses of the obligation it names can be met, at boundary values of each clause. -/

namespace Sys2Proof.Machine.Tests

/-! ## Helpers -/

/-- The instance of most vectors: `N_TX = 10`, `N_RX = 8`, `PTR_W = 32`, `DESC_SIZE = 16`. -/
def c32 : Config := Config.ofVectors

/-- The same with 64-bit pointers, and away from address 0. -/
def c64 : Config := { c32 with ptrW := .w64, blockBase := 0x1000 }

/-- A state of an instance with the block record `b`. -/
def at' (c : Config) (b : Block) : State := { State.resetOf c with blk := b }

/-- A state with events to come. -/
def soon (c : Config) (b : Block) (es : List Event) : State := { at' c b with pending := es }

/-- The block record a step leaves, if it answers a next state. -/
def outBlk : Result → Option Block
  | .next s => some s.blk
  | .fault _ => none
  | .refused _ => none

/-- The fault of a step, if it is one. -/
def outFault : Result → Option Fault
  | .next _ => none
  | .fault f => some f
  | .refused _ => none

/-- The answer of a step, if it answers a next state. -/
def outReply : Result → Option Reply
  | .next s => some s.reply
  | .fault _ => none
  | .refused _ => none

/-- The TX inputs loaded. -/
def txIn (c d f q : Word) : Block := { Block.reset with txCur := c, txDirty := d, txFree := f, txQueued := q }

/-- The RX inputs loaded, with `RX_BASE = 0x1000`. -/
def rxIn (h t : Word) : Block := { Block.reset with rxHeadLo := h, rxTailLo := t, rxBaseLo := 0x1000#32 }

/-- After the TX_EVAL of V2 (scenario B), with `ARG = k`. -/
def afterV2 (k : Word) : Block :=
  { txIn 7#32 2#32 5#32 5#32 with
    sCur := 7#32, sDirty := 2#32, txRes := 0x07#32, txFreeCnt := 5#32, txInflCnt := 5#32, txValid := true, arg := k }

/-- After the TX_EVAL of V4 (full ring), with `ARG = k`. -/
def afterV4 (k : Word) : Block :=
  { txIn 4#32 4#32 0#32 10#32 with
    sCur := 4#32, sDirty := 4#32, txRes := 0x02#32, txFreeCnt := 0#32, txInflCnt := 10#32, txValid := true, arg := k }

/-- Halted by the Fatal of V10. -/
def afterV10 : Block := { txIn 10#32 2#32 5#32 5#32 with halt := true, errInfo := 0x102#32 }

/-! ## Well-formedness: one ill-formed term for each check -/

theorem test_wf_vectors : c32.wf = true ∧ c64.wf = true := by decide
theorem test_wf_bounds : Config.wf { nTx := 1, nRx := 2 ^ 32 - 1, ptrW := .w64, descSize := 65535, blockBase := 256 } = true := by
  decide
theorem test_wf_refuses_nTx_zero : Config.wf { c32 with nTx := 0 } = false := by decide
theorem test_wf_refuses_nTx_big : Config.wf { c32 with nTx := 2 ^ 32 } = false := by decide
theorem test_wf_refuses_nRx_zero : Config.wf { c32 with nRx := 0 } = false := by decide
theorem test_wf_refuses_nRx_big : Config.wf { c32 with nRx := 2 ^ 32 } = false := by decide
theorem test_wf_refuses_descSize_zero : Config.wf { c32 with descSize := 0 } = false := by decide
theorem test_wf_refuses_descSize_big : Config.wf { c32 with descSize := 65536 } = false := by decide
theorem test_wf_refuses_unaligned_base : Config.wf { c32 with blockBase := 4 } = false := by decide
theorem test_wf_every_command : Instr.wf .nop = true ∧ Instr.wf .srst = true := by decide

/-! ## Decoding: the words of spec/opcode_table.json, bit by bit -/

theorem test_decode_nop : decode 0b00000000000000000000000000000000#32 = .ok .nop := by decide
theorem test_decode_txEval : decode 0b00000000000000000000000000000001#32 = .ok .txEval := by decide
theorem test_decode_txFreeAt : decode 0b00000000000000000000000000000010#32 = .ok .txFreeAt := by decide
theorem test_decode_txInflAt : decode 0b00000000000000000000000000000011#32 = .ok .txInflAt := by decide
theorem test_decode_rxEval : decode 0b00000000000000000000000000000100#32 = .ok .rxEval := by decide
theorem test_decode_txDescAddr : decode 0b00000000000000000000000000000101#32 = .ok .txDescAddr := by decide
theorem test_decode_rxDescAddr : decode 0b00000000000000000000000000000110#32 = .ok .rxDescAddr := by decide
theorem test_decode_clrWarn : decode 0b00000000000000000000000000000111#32 = .ok .clrWarn := by decide
theorem test_decode_srst : decode 0b00000000000000000000000000001111#32 = .ok .srst := by decide
theorem test_decode_reservedOp : decode 0b00000000000000000000000000001000#32 = .error .reservedOp := by decide
theorem test_decode_reservedBits : decode 0b00000000000000000000000000011111#32 = .error .reservedBits := by decide
theorem test_decodeTableWord : decodeTableWord 32 0xF = some .srst ∧ decodeTableWord 32 0x8 = none := by decide

/-! ## The commands, on the spec's vectors -/

/-- K7. -/
theorem test_nop : outBlk (exec .nop (at' c32 (afterV2 3#32))) = some (afterV2 3#32) := by decide

/-- V6: `c > d = 0`, the wrapping branch. -/
theorem test_txEval_V6 : (outBlk (exec .txEval (at' c32 (txIn 3#32 0#32 7#32 3#32)))).map
    (fun b => (b.txRes, b.txFreeCnt, b.txInflCnt, b.sCur, statusWord b)) =
    some (0x07#32, 7#32, 3#32, 3#32, 0x4#32) := by decide

/-- V17: the counts are never range-checked, and their sum does not overflow. -/
theorem test_txEval_V17 : (outBlk (exec .txEval (at' c32 (txIn 7#32 2#32 0xFFFFFFFF#32 0xFFFFFFFF#32)))).map
    (fun b => (b.txRes, b.txFreeCnt, b.txInflCnt, b.halt)) = some (0x17#32, 5#32, 5#32, false) := by decide

/-- T2: the list wraps. -/
theorem test_txFreeAt_T2 : (outBlk (exec .txFreeAt (at' c32 (afterV2 3#32)))).map
    (fun b => (b.resultLo, b.resultHi, b.halt)) = some (0#32, 0#32, false) := by decide

/-- T4: the position is not taken modulo the length. -/
theorem test_txFreeAt_T4 : (outBlk (exec .txFreeAt (at' c32 (afterV2 5#32)))).map
    (fun b => (b.errInfo, statusWord b)) = some (0x00000205#32, 0x5#32) := by decide

/-- T9: the full ring, from `S_DIRTY`. -/
theorem test_txInflAt_T9 : (outBlk (exec .txInflAt (at' c32 (afterV4 9#32)))).map (fun b => b.resultLo) =
    some 3#32 := by decide

/-- T14: a list read before any TX_EVAL. -/
theorem test_txInflAt_T14 : (outBlk (exec .txInflAt State.reset)).map (fun b => (b.errInfo, b.halt)) =
    some (0x00000304#32, true) := by decide

/-- X9: different bytes of one slot are EQUAL, with both remainders and a warning. -/
theorem test_rxEval_X9 : (outBlk (exec .rxEval (at' c32 (rxIn 0x1044#32 0x1048#32)))).map
    (fun b => (b.rxRes, b.rxHeadIdx, b.rxDevCnt, b.rxDrvCnt, b.warnCnt)) =
    some (0x0D#32, 4#32, 0#32, 8#32, 1#32) := by decide

/-- X17: 64-bit pointers. -/
theorem test_rxEval_X17 : (outBlk (exec .rxEval (at' c64 { Block.reset with
    rxHeadLo := 0x30#32, rxHeadHi := 1#32, rxTailLo := 0x10#32, rxTailHi := 1#32, rxBaseHi := 1#32 }))).map
    (fun b => (b.rxRes, b.rxHeadIdx, b.rxTailIdx, b.rxDevCnt, b.rxDrvCnt)) =
    some (0x02#32, 3#32, 1#32, 7#32, 1#32) := by decide

/-- S4: the 32-bit wrap. -/
theorem test_txDescAddr_S4 : (outBlk (exec .txDescAddr (at' c32 { Block.reset with
    txBaseLo := 0xFFFFFFF0#32, arg := 1#32 }))).map (fun b => (b.resultHi, b.resultLo)) =
    some (0#32, 0#32) := by decide

/-- S5: past the last slot. -/
theorem test_txDescAddr_S5 : (outBlk (exec .txDescAddr (at' c32 { Block.reset with arg := 10#32 }))).map
    (fun b => (b.errInfo, b.resultLo)) = some (0x00000506#32, 0#32) := by decide

/-- S6: a 64-bit address. -/
theorem test_rxDescAddr_S6 : (outBlk (exec .rxDescAddr (at' c64 { Block.reset with
    rxBaseHi := 1#32, arg := 5#32 }))).map (fun b => (b.resultHi, b.resultLo)) = some (1#32, 0x50#32) := by decide

/-- S8: the 64-bit wrap. -/
theorem test_rxDescAddr_S8 : (outBlk (exec .rxDescAddr (at' c64 { Block.reset with
    rxBaseLo := 0xFFFFFFF0#32, rxBaseHi := 0xFFFFFFFF#32, arg := 2#32 }))).map (fun b => (b.resultHi, b.resultLo)) =
    some (0#32, 0x10#32) := by decide

/-- K14: ignored while halted. -/
theorem test_clrWarn_K14 : (outBlk (exec .clrWarn (at' c32 { afterV10 with warnCnt := 1#32, rxValid := true }))).map
    (fun b => (b.warnCnt, statusWord b)) = some (1#32, 0xB#32) := by decide

/-- K11: SRST after the Fatal of V10. -/
theorem test_srst_K11 : outBlk (exec .srst (at' c32 afterV10)) = some Block.reset := by decide

/-- K13: the warning count saturates. -/
theorem test_warn_K13 : (outBlk (exec .rxEval (at' c32 { rxIn 0x1040#32 0x1040#32 with
    warnCnt := 0xFFFFFFFF#32 }))).map (fun b => b.warnCnt) = some 0xFFFFFFFF#32 := by decide

/-! ## The port -/

/-- K5: an illegal word. -/
theorem test_illegal_K5 : (outBlk (step (soon c64 Block.reset [cmdWrite c64 0xFFFFFFFF#32]))).map
    (fun b => b.errInfo) = some 0x00001F01#32 := by decide

/-- K10: 0x1F is not SRST, and is ignored while halted. -/
theorem test_illegal_K10 : outBlk (step (soon c64 afterV10 [cmdWrite c64 0x1F#32])) = some afterV10 := by decide

/-- K8: an input write while halted is stored. -/
theorem test_halted_write_K8 : (outBlk (step (soon c64 afterV10 [wrEvent c64 .txCur 3#32]))).map
    (fun b => (b.txCur, b.errInfo)) = some (3#32, 0x102#32) := by decide

/-- U3: a write to a read-only register. -/
theorem test_write_U3 : outBlk (step (soon c64 Block.reset [wrEvent c64 .txRes 7#32])) = some Block.reset := by decide

/-- U4, U5: a `*_HI` register at both pointer widths. -/
theorem test_write_U4_U5 : writeOffset c32 Block.reset 0x4C 5#32 = Block.reset ∧
    readOffset c64 (writeOffset c64 Block.reset 0x4C 5#32) 0x4C = 5#32 := by decide

/-- U7: `CAP_MISC` with 64-bit pointers. -/
theorem test_read_U7 : outReply (step (soon c64 Block.reset [rdEvent c64 .capMisc])) =
    some (.data 0x00010010#32) := by decide

/-- U9, U10, U11 and accesses outside the window: bus errors. -/
theorem test_bus_errors :
    outFault (step (soon c64 Block.reset [.access (.write 0x1020 1 9#32)])) = some (.busError (.write 0x1020 1 9#32)) ∧
    outFault (step (soon c64 Block.reset [.access (.read 0x1022 4)])) = some (.busError (.read 0x1022 4)) ∧
    outFault (step (soon c64 Block.reset [.access (.write 0x1002 4 1#32)])) = some (.busError (.write 0x1002 4 1#32)) ∧
    outFault (step (soon c64 Block.reset [.access (.read 0x1100 4)])) = some (.busError (.read 0x1100 4)) ∧
    outFault (step (soon c64 Block.reset [.access (.read 0xFFC 4)])) = some (.busError (.read 0xFFC 4)) := by decide

/-- R64: byte 1 of `TX_CUR` is bits 15:8. -/
theorem test_window_byte : windowByte c64 (txIn 0x04030201#32 0#32 0#32 0#32) 0x1021 = some 0x02#8 := by decide

/-- P1 lines 1 and 9 to 11, and P2 lines 1 and 2: the encodings of host lines. -/
theorem test_host_lines : hostOpEvents c32 (.wr .txCur 7#32) = [.access (.write 0x20 4 7#32)] ∧
    hostOpEvents c32 (.freeAt 3#32) =
      [.access (.write 0x1C 4 3#32), .access (.write 0x00 4 2#32), .access (.read 0xA8 4)] ∧
    hostOpEvents c32 (.wr64 .rxHead 0x100000030#64) =
      [.access (.write 0x48 4 0x30#32), .access (.write 0x4C 4 1#32)] := by decide

/-- The word placed as the next access is the command that runs. -/
theorem test_withFetchWord : outBlk (step (State.reset.withFetchWord 32 4)) = outBlk (exec .rxEval State.reset) := by
  decide

/-! ## Witnesses: the hypotheses of the obligations can be met -/

/-- A good state after V2. -/
theorem good_afterV2 (k : Word) : GoodState (at' c32 (afterV2 k)) where
  cfg_wf := show c32.wf = true by decide
  hi_zero := fun _ => ⟨rfl, rfl, rfl, rfl, rfl⟩
  tx_none := fun h => nomatch h
  tx_some := fun _ => ⟨show (7#32).toNat < 10 by decide, show (2#32).toNat < 10 by decide, 5#32, 5#32,
    show (0x07#32) = txEvalRes 7 2 5 5 10 by decide,
    show (5#32).toNat = (freeList 7 2 (txCaseOf 5 5 10) 10).length by decide,
    show (5#32).toNat = (inflList 7 2 (txCaseOf 5 5 10) 10).length by decide⟩
  rx_none := fun _ => ⟨rfl, rfl, rfl, rfl, rfl⟩
  rx_some := fun h => nomatch h
  err_none := fun _ => rfl
  err_some := fun h => nomatch h

/-- A good state is good whatever the host does next. -/
theorem good_soon {s : State} (h : GoodState s) (es : List Event) : GoodState { s with pending := es } :=
  ⟨h.cfg_wf, h.hi_zero, h.tx_none, h.tx_some, h.rx_none, h.rx_some, h.err_none, h.err_some⟩

/-- A good state before any TX_EVAL, with a command's list position in `ARG`. -/
theorem good_unevaluated : GoodState (at' c32 { Block.reset with arg := 1#32 }) where
  cfg_wf := show c32.wf = true by decide
  hi_zero := fun _ => ⟨rfl, rfl, rfl, rfl, rfl⟩
  tx_none := fun _ => ⟨rfl, rfl, rfl, rfl, rfl⟩
  tx_some := fun h => nomatch h
  rx_none := fun _ => ⟨rfl, rfl, rfl, rfl, rfl⟩
  rx_some := fun h => nomatch h
  err_none := fun _ => rfl
  err_some := fun h => nomatch h

theorem witness_DecodeEncodeAgree : Instr.wf .srst = true ∧ decode 0xF#32 = .ok .srst ∧ 15 < 2 ^ 32 ∧
    decodeTableWord 32 15 = some .srst := by decide

theorem witness_CommandWordsSplitInThreeSets :
    (0x10#32).extractLsb' 4 28 ≠ 0#28 ∧ (0x80000000#32).extractLsb' 4 28 ≠ 0#28 ∧
    0x8 ≤ (0x8#32).toNat ∧ (0xE#32).toNat ≤ 0xE ∧
    (soon c32 Block.reset [cmdWrite c32 0x10#32]).pending = cmdWrite c32 0x10#32 :: [] ∧ Block.reset.halt = false ∧
    (soon c32 afterV10 [cmdWrite c32 0xE#32]).pending = cmdWrite c32 0xE#32 :: [] ∧ afterV10.halt = true := by decide

theorem witness_ResetStateIsGood_FirstCommandsAfterReset : c64.wf = true := by decide

theorem witness_StepKeepsGoodState : ∃ s t, GoodState s ∧ step s = .next t ∧ t ≠ s :=
  ⟨soon c32 (afterV2 4#32) [.hwReset], _, good_soon (good_afterV2 4#32) _, rfl, by decide⟩

theorem witness_HardwareResetIsSoftReset : (soon c32 afterV10 [.hwReset]).pending = .hwReset :: [] := rfl

theorem witness_StepRunsTheDecodedCommand :
    (soon c64 Block.reset [cmdWrite c64 0x1#32]).pending = cmdWrite c64 0x1#32 :: [] ∧ decode 0x1#32 = .ok .txEval := by
  decide

theorem witness_IdleBlockHoldsItsState : State.reset.pending = [] := rfl

theorem witness_HostReadReturnsTheRegister : 0xFC < 256 ∧ 0xFC % 4 = 0 ∧
    (soon c64 Block.reset [.access (.read (0x1000 + 0xFC) 4)]).pending = .access (.read (0x1000 + 0xFC) 4) :: [] ∧
    (0x60 ≤ 0x7C ∧ 0x7C ≤ 0x7C) ∧ (0xB0 ≤ 0xFC ∧ 0xFC ≤ 0xFC) := by decide

theorem witness_HostWriteStoresRunsOrIsIgnored :
    (∀ off ∈ [0x00, 0x04, 0x18, 0x1C, 0x20, 0x34, 0x5C, 0x60, 0xFC], off < 256 ∧ off % 4 = 0) ∧
    (soon c64 Block.reset [.access (.write (0x1000 + 0x5C) 4 5#32)]).pending =
      .access (.write (0x1000 + 0x5C) 4 5#32) :: [] ∧ c64.ptrW = .w64 ∧ c32.ptrW = .w32 := by decide

theorem witness_WindowIsLittleEndian_PointerAssembly : 0xFC < 256 ∧ 0xFC % 4 = 0 ∧ 3 < 4 ∧ c64.ptrW = .w64 ∧
    c32.ptrW = .w32 := by decide

theorem witness_GoodStatesReadInRange : GoodState (at' c32 (afterV2 0#32)) ∧ c32.ptrW = .w32 :=
  ⟨good_afterV2 0#32, rfl⟩

theorem witness_ClrWarnClearsTheWarningCount : Block.reset.halt = false ∧ afterV10.halt = true := by decide

/-- Both indices at the last slot; `cur_tx` just out of range; `dirty_tx` just out of range. -/
theorem witness_TxEvalFollowsItsRule : c32.wf = true ∧ (txIn 9#32 9#32 10#32 0#32).halt = false ∧
    ((txIn 9#32 9#32 10#32 0#32).txCur.toNat < c32.nTx ∧ (txIn 9#32 9#32 10#32 0#32).txDirty.toNat < c32.nTx) ∧
    c32.nTx ≤ (txIn 10#32 9#32 0#32 0#32).txCur.toNat ∧
    ((txIn 9#32 10#32 0#32 0#32).txCur.toNat < c32.nTx ∧ c32.nTx ≤ (txIn 9#32 10#32 0#32 0#32).txDirty.toNat) := by
  decide

/-- Before any TX_EVAL; at the last entry; just past it. -/
theorem witness_TxFreeAtReadsTheLatchedList : GoodState (at' c32 { Block.reset with arg := 1#32 }) ∧
    GoodState (at' c32 (afterV2 4#32)) ∧ (afterV2 4#32).halt = false ∧ (afterV2 4#32).txValid = true ∧
    (afterV2 4#32).arg.toNat < (freeList 7 2 (txResCase (afterV2 4#32).txRes) 10).length ∧
    GoodState (at' c32 (afterV2 5#32)) ∧
    (freeList 7 2 (txResCase (afterV2 5#32).txRes) 10).length ≤ (afterV2 5#32).arg.toNat :=
  ⟨good_unevaluated, good_afterV2 4#32, by decide, by decide, by decide, good_afterV2 5#32, by decide⟩

/-- Before any TX_EVAL; at the last entry; just past it. -/
theorem witness_TxInflAtReadsTheLatchedList : GoodState (at' c32 { Block.reset with arg := 1#32 }) ∧
    GoodState (at' c32 (afterV2 4#32)) ∧ (afterV2 4#32).halt = false ∧ (afterV2 4#32).txValid = true ∧
    (afterV2 4#32).arg.toNat < (inflList 7 2 (txResCase (afterV2 4#32).txRes) 10).length ∧
    GoodState (at' c32 (afterV2 5#32)) ∧
    (inflList 7 2 (txResCase (afterV2 5#32).txRes) 10).length ≤ (afterV2 5#32).arg.toNat :=
  ⟨good_unevaluated, good_afterV2 4#32, by decide, by decide, by decide, good_afterV2 5#32, by decide⟩

/-- Both indices at the last slot; the head index just out of range; the tail index just out of range. -/
theorem witness_RxEvalFollowsItsRule : c32.wf = true ∧ (rxIn 0x1070#32 0x1070#32).halt = false ∧
    ((0x70 : Int) = ((ptrValue c32 (rxIn 0x1070#32 0x1070#32) .rxHead : Int) -
      (ptrValue c32 (rxIn 0x1070#32 0x1070#32) .rxBase : Int)) % (2 ^ 32 : Int) ∧ 0x70 / 16 < 8) ∧
    ((0x80 : Int) = ((ptrValue c32 (rxIn 0x1080#32 0x1000#32) .rxHead : Int) -
      (ptrValue c32 (rxIn 0x1080#32 0x1000#32) .rxBase : Int)) % (2 ^ 32 : Int) ∧ 8 ≤ 0x80 / 16) ∧
    ((0x80 : Int) = ((ptrValue c32 (rxIn 0x1000#32 0x1080#32) .rxTail : Int) -
      (ptrValue c32 (rxIn 0x1000#32 0x1080#32) .rxBase : Int)) % (2 ^ 32 : Int)) := by decide

/-- The last slot and the one past it, on both rings. -/
theorem witness_DescAddrGivesTheSlotAddress : ({ Block.reset with arg := 9#32 } : Block).halt = false ∧
    (9#32).toNat < c32.nTx ∧ c32.nTx ≤ (10#32).toNat ∧ (7#32).toNat < c32.nRx ∧ c32.nRx ≤ (8#32).toNat := by decide

theorem witness_SlotAddressInvertsIndexDerivation : c64.wf = true ∧
    ({ Block.reset with arg := 7#32 } : Block).halt = false ∧ (7#32).toNat < c64.nRx ∧
    (7#32).toNat * c64.descSize < 2 ^ c64.ptrW.bits := by decide

/-- A whole partition (V2) and the empty one (V5, MIXED with equal indices). -/
theorem witness_TxListsPartitionTheRing :
    (∃ t, exec .txEval (at' c32 (txIn 7#32 2#32 5#32 5#32)) = .next t ∧ t.blk.halt = false ∧
      txResCase t.blk.txRes = .mixed) ∧
    (∃ t, exec .txEval (at' c32 (txIn 4#32 4#32 3#32 7#32)) = .next t ∧ t.blk.halt = false ∧
      txResCase t.blk.txRes = .mixed) :=
  ⟨⟨_, rfl, by decide, by decide⟩, ⟨_, rfl, by decide, by decide⟩⟩

theorem witness_ConsistentSnapshotRoundTrip : ∃ t, exec .txEval (at' c32 (txIn 7#32 2#32 5#32 5#32)) = .next t ∧
    t.blk.halt = false ∧ t.blk.txRes.getLsbD 4 = false := ⟨_, rfl, by decide, by decide⟩

/-- Equal indices (X3), and different ones with the whole ring device-owned (X4). -/
theorem witness_RxCountsAreExact :
    (∃ t, exec .rxEval (at' c32 (rxIn 0x1040#32 0x1040#32)) = .next t ∧ t.blk.halt = false ∧
      t.blk.rxHeadIdx = t.blk.rxTailIdx) ∧
    (∃ t, exec .rxEval (at' c32 (rxIn 0x1010#32 0x1000#32)) = .next t ∧ t.blk.halt = false ∧
      t.blk.rxDevCnt = 8#32) :=
  ⟨⟨_, rfl, by decide, by decide⟩, ⟨_, rfl, by decide, by decide⟩⟩

theorem witness_FatalEntryIsPrecise : Block.reset.halt = false ∧
    ∃ t, step (soon c32 Block.reset [cmdWrite c32 0x8#32]) = .next t ∧ t.blk.halt = true :=
  ⟨rfl, _, rfl, rfl⟩

theorem witness_HaltedBlockIgnoresCommands : afterV10.halt = true ∧ Instr.txEval ≠ .srst ∧ 0x1F#32 ≠ 0x0000000F#32 ∧
    (soon c32 afterV10 [cmdWrite c32 0x1F#32]).pending = cmdWrite c32 0x1F#32 :: [] ∧
    (∀ off ∈ [0x04, 0x1C, 0xFC], off < 256 ∧ off % 4 = 0 ∧ off ≠ 0) := by decide

theorem witness_OnlyResetLeavesTheHaltedState : afterV10.halt = true ∧
    NextIsReset (soon c32 afterV10 [cmdWrite c32 0xF#32]) ∧
    ∃ t, step (soon c32 afterV10 [cmdWrite c32 0xF#32]) = .next t ∧ t.blk.halt = false :=
  ⟨rfl, ⟨_, _, rfl, by decide⟩, _, rfl, rfl⟩

theorem witness_HaltIsStickyAlongRuns : afterV10.halt = true ∧
    (∀ e ∈ (soon c32 afterV10 [cmdWrite c32 0x1F#32, rdEvent c32 .status]).pending, clearsHalt c32 e = false) ∧
    ∃ t, runSteps 2 (soon c32 afterV10 [cmdWrite c32 0x1F#32, rdEvent c32 .status]) = .next t :=
  ⟨rfl, by decide, _, rfl⟩

theorem witness_WarnCountChangesOnlyAsCounted :
    (∃ t, step (soon c32 (rxIn 0x1040#32 0x1040#32) [cmdWrite c32 0x4#32]) = .next t ∧ t.blk.warnCnt = 1#32) ∧
    (∃ t, step (soon c32 { Block.reset with warnCnt := 3#32 } [cmdWrite c32 0x7#32]) = .next t ∧ t.blk.warnCnt = 0#32) ∧
    (∃ t, step (soon c32 { afterV10 with warnCnt := 3#32 } [.hwReset]) = .next t ∧ t.blk.warnCnt = 0#32) :=
  ⟨⟨_, rfl, by decide⟩, ⟨_, rfl, rfl⟩, ⟨_, rfl, rfl⟩⟩

theorem witness_ResultRegistersHaveTheirWriters_ParametersNeverChange :
    ∃ t, step (soon c32 (afterV2 3#32) [cmdWrite c32 0x2#32]) = .next t := ⟨_, rfl⟩

theorem witness_CommandsKeepTheInputRegisters_RxCurAffectsNoResult : Instr.txEval ≠ .srst ∧
    ∃ t, exec .txEval (at' c32 (txIn 7#32 2#32 5#32 5#32)) = .next t := ⟨by decide, _, rfl⟩

theorem witness_EarlierAccessesDoNotSeeLaterOnes :
    (∃ t, runSteps 1 (soon c32 Block.reset [rdEvent c32 .status]) = .next t) ∧
    (∃ f, runSteps 1 (soon c32 Block.reset [.access (.read 1 4)]) = .fault f) := ⟨⟨_, rfl⟩, ⟨_, rfl⟩⟩

theorem witness_HalfWrittenPointerIsTorn : c64.ptrW = .w64 ∧
    (soon c64 Block.reset [wrEvent c64 (ptrLoReg .rxHead) 5#32]).pending = wrEvent c64 (ptrLoReg .rxHead) 5#32 :: [] ∧
    (soon c64 Block.reset [wrEvent c64 (ptrHiReg .rxHead) 5#32]).pending =
      wrEvent c64 (ptrHiReg .rxHead) 5#32 :: [] := by decide

theorem witness_RxLoadLoadsThePointers : (soon c64 Block.reset (hostOpEvents c64 (.rxLoad 3#64 2#64 1#64))).pending =
    hostOpEvents c64 (.rxLoad 3#64 2#64 1#64) := rfl

/-- The last entry of each list of V2. -/
theorem witness_ListReadsSurviveAReload : (∀ es, GoodState (soon c32 (afterV2 0#32) es)) ∧
    (afterV2 0#32).halt = false ∧ (afterV2 0#32).txValid = true ∧ (4#32).toNat < (afterV2 0#32).txFreeCnt.toNat ∧
    (4#32).toNat < (afterV2 0#32).txInflCnt.toNat :=
  ⟨fun es => good_soon (good_afterV2 0#32) es, by decide, by decide, by decide, by decide⟩

theorem witness_RepeatedAccessesAgree :
    (∃ t, step (soon c32 Block.reset [rdEvent c32 .status, rdEvent c32 .status]) = .next t) ∧
    (∃ t, step (soon c32 Block.reset [wrEvent c32 .arg 1#32, wrEvent c32 .arg 1#32]) = .next t) :=
  ⟨⟨_, rfl⟩, ⟨_, rfl⟩⟩

theorem witness_RunsEndUnlessABusErrorStopsThem : RunSafe (soon c32 Block.reset [rdEvent c32 .status]) :=
  ⟨_, rfl, rfl⟩

end Sys2Proof.Machine.Tests
end

section
/-! The block with no access in progress (00_scope.md R10), and the one shape every command's answer has
(00_scope.md R14, 60_exceptions.md R170). -/

namespace Sys2Proof.Machine

/-- A command answers by replacing the block record and nothing else, so the fields outside the record need no argument
of their own: `withBlk`'s lemmas give them. -/
theorem exec_eq_next_withBlk (i : Instr) (s : State) : ∃ b : Block, exec i s = .next (s.withBlk b) := by
  rcases exec_cases i s with ⟨-, hReset⟩ | ⟨-, -, hIgnored⟩ | ⟨b, -, -, -, hDone⟩ | ⟨e, -, -, -, hFatal⟩
  · exact ⟨Block.reset, hReset⟩
  · exact ⟨s.blk, hIgnored⟩
  · exact ⟨b, hDone⟩
  · exact ⟨s.blk.enterFatal (opField (encode i)) e, hFatal⟩

/-- Settles O30, by the four things `exec` can do: each answers the state with another block record. -/
theorem everyCommandAnswersANextState : Obligations.EveryCommandAnswersANextState := by
  intro i s
  obtain ⟨b, hExec⟩ := exec_eq_next_withBlk i s
  exact ⟨s.withBlk b, hExec, s.withBlk_cfg b, s.withBlk_pending b, s.withBlk_reply b⟩

/-- Settles O9, by the equation for a step with no event pending. -/
theorem idleBlockHoldsItsState : Obligations.IdleBlockHoldsItsState :=
  fun _ hIdle => step_idle hIdle

end Sys2Proof.Machine
end

section
/-! Where each field lies in the five packed registers (10_state.md R30, R33, R35, R36, R38): one lemma per field, by
the place the field has in the concatenation. -/

namespace Sys2Proof.Machine

theorem statusWord_bits (b : Block) :
    (statusWord b).getLsbD 0 = b.halt ∧ (statusWord b).getLsbD 1 = warnFlag b ∧
    (statusWord b).getLsbD 2 = b.txValid ∧ (statusWord b).getLsbD 3 = b.rxValid := by
  simp only [statusWord, BitVec.getLsbD_append]
  simp

theorem warnFlag_eq_true_iff (b : Block) : warnFlag b = true ↔ b.warnCnt ≠ 0#32 := decide_eq_true_iff

theorem statusWord_reserved (b : Block) : (statusWord b).extractLsb' 4 28 = 0#28 := by
  rw [statusWord, BitVec.extractLsb'_append_eq_of_le (by omega), BitVec.extractLsb'_append_eq_of_le (by omega),
    BitVec.extractLsb'_append_eq_of_le (by omega)]
  exact BitVec.extractLsb'_append_eq_left

theorem capMiscWord_descSize (c : Config) : (capMiscWord c).extractLsb' 0 16 = BitVec.ofNat 16 c.descSize :=
  BitVec.extractLsb'_append_eq_right

theorem capMiscWord_ptrW (c : Config) : (capMiscWord c).getLsbD 16 = true ↔ c.ptrW = .w64 := by
  simp only [capMiscWord, BitVec.getLsbD_append]
  simp

theorem capMiscWord_reserved (c : Config) : (capMiscWord c).extractLsb' 17 15 = 0#15 := by
  rw [capMiscWord, BitVec.extractLsb'_append_eq_of_le (by omega)]
  exact BitVec.extractLsb'_append_eq_left

section
variable (code : ErrCode) (op : BitVec 4) (which : Bool)

theorem errInfoWord_code : (errInfoWord code op which).extractLsb' 0 8 = code.byte :=
  BitVec.extractLsb'_append_eq_right

theorem errInfoWord_op : (errInfoWord code op which).extractLsb' 8 4 = op := by
  rw [errInfoWord, BitVec.extractLsb'_append_eq_of_le (by omega)]
  exact BitVec.extractLsb'_append_eq_right

theorem errInfoWord_which : (errInfoWord code op which).getLsbD 12 = which := by
  simp only [errInfoWord, BitVec.getLsbD_append]
  simp

theorem errInfoWord_reserved : (errInfoWord code op which).extractLsb' 13 19 = 0#19 := by
  rw [errInfoWord, BitVec.extractLsb'_append_eq_of_le (by omega), BitVec.extractLsb'_append_eq_of_le (by omega)]
  exact BitVec.extractLsb'_append_eq_left

end

section
variable (k : TxCase) (fwrap iwrap incons : Bool)

theorem txResWord_case : (txResWord k fwrap iwrap incons).extractLsb' 0 2 = k.code :=
  BitVec.extractLsb'_append_eq_right

theorem txResWord_flags :
    (txResWord k fwrap iwrap incons).getLsbD 2 = fwrap ∧ (txResWord k fwrap iwrap incons).getLsbD 3 = iwrap ∧
    (txResWord k fwrap iwrap incons).getLsbD 4 = incons := by
  simp only [txResWord, BitVec.getLsbD_append]
  simp

theorem txResWord_reserved : (txResWord k fwrap iwrap incons).extractLsb' 5 27 = 0#27 := by
  rw [txResWord, BitVec.extractLsb'_append_eq_of_le (by omega), BitVec.extractLsb'_append_eq_of_le (by omega),
    BitVec.extractLsb'_append_eq_of_le (by omega)]
  exact BitVec.extractLsb'_append_eq_left

end

section
variable (k : RxCase) (hrem trem : Bool)

theorem rxResWord_case : (rxResWord k hrem trem).extractLsb' 0 2 = k.code :=
  BitVec.extractLsb'_append_eq_right

theorem rxResWord_flags :
    (rxResWord k hrem trem).getLsbD 2 = hrem ∧ (rxResWord k hrem trem).getLsbD 3 = trem := by
  simp only [rxResWord, BitVec.getLsbD_append]
  simp

theorem rxResWord_reserved : (rxResWord k hrem trem).extractLsb' 4 28 = 0#28 := by
  rw [rxResWord, BitVec.extractLsb'_append_eq_of_le (by omega), BitVec.extractLsb'_append_eq_of_le (by omega)]
  exact BitVec.extractLsb'_append_eq_left

end

/-- Settles O15, field by field from the lemmas above; the code numbers are the definitions' own, and the CASE reads
back by the laws of the packed registers. -/
theorem registerFieldLayouts : Obligations.RegisterFieldLayouts := by
  refine ⟨fun b => ?_, fun c => ⟨capMiscWord_descSize c, capMiscWord_ptrW c, capMiscWord_reserved c⟩,
    fun code op which => ⟨errInfoWord_code code op which, errInfoWord_op code op which,
      errInfoWord_which code op which, errInfoWord_reserved code op which⟩,
    fun k fw iw inc => ?_, fun k hr tr => ?_, ⟨rfl, rfl, rfl, rfl⟩, ⟨rfl, rfl, rfl, rfl⟩,
    ⟨rfl, rfl, rfl, rfl, rfl, rfl⟩, txResCase_txResWord, rxResCase_rxResWord⟩
  · obtain ⟨hHalt, hWarn, hTx, hRx⟩ := statusWord_bits b
    exact ⟨hHalt, hWarn ▸ warnFlag_eq_true_iff b, hTx, hRx, statusWord_reserved b⟩
  · obtain ⟨hFwrap, hIwrap, hIncons⟩ := txResWord_flags k fw iw inc
    exact ⟨txResWord_case k fw iw inc, hFwrap, hIwrap, hIncons, txResWord_reserved k fw iw inc⟩
  · obtain ⟨hHrem, hTrem⟩ := rxResWord_flags k hr tr
    exact ⟨rxResWord_case k hr tr, hHrem, hTrem, rxResWord_reserved k hr tr⟩

end Sys2Proof.Machine
end

section
/-! The pointers at either width, and what a plain host write reaches (10_state.md R22, R25, R27). -/

namespace Sys2Proof.Machine

theorem ptrValue_of_w32 {c : Config} (hw : c.ptrW = .w32) (b : Block) (p : Ptr) :
    ptrValue c b p = (ptrLo b p).toNat := by
  simp only [ptrValue, hw]

theorem ptrValue_of_w64 {c : Config} (hw : c.ptrW = .w64) (b : Block) (p : Ptr) :
    ptrValue c b p = (ptrHi b p).toNat * 2 ^ 32 + (ptrLo b p).toNat := by
  simp only [ptrValue, hw, BitVec.toNat_append]
  rw [← Nat.shiftLeft_add_eq_or_of_lt (ptrLo b p).isLt, Nat.shiftLeft_eq]

section
variable {off : Nat} {r : Reg} {a : AccessCode} {c : Config}

theorem readOffset_of_regAt (hreg : regAt off = some (r, a)) (b : Block) : readOffset c b off = readReg c b r := by
  simp only [readOffset, hreg]

theorem writeOffset_of_rw (hreg : regAt off = some (r, .rw)) (b : Block) (v : Word) :
    writeOffset c b off v = storeReg b v r := by
  simp only [writeOffset, hreg]

theorem writeOffset_of_rw64_w64 (hreg : regAt off = some (r, .rw64)) (hw : c.ptrW = .w64) (b : Block) (v : Word) :
    writeOffset c b off v = storeReg b v r := by
  simp only [writeOffset, hreg, hw]

theorem writeOffset_of_rw64_w32 (hreg : regAt off = some (r, .rw64)) (hw : c.ptrW = .w32) (b : Block) (v : Word) :
    writeOffset c b off v = b := by
  simp only [writeOffset, hreg, hw]

end

/-- The offsets of the four `*_HI` registers are those of the pointers' high halves (10_state.md R23, R25). -/
theorem regAt_hi_offset {off : Nat} (hoff : off = 0x34 ∨ off = 0x4C ∨ off = 0x54 ∨ off = 0x5C) :
    ∃ p : Ptr, regAt off = some (ptrHiReg p, .rw64) := by
  rcases hoff with rfl | rfl | rfl | rfl
  · exact ⟨.txBase, rfl⟩
  · exact ⟨.rxHead, rfl⟩
  · exact ⟨.rxTail, rfl⟩
  · exact ⟨.rxBase, rfl⟩

/-- With 32-bit pointers a `*_HI` register reads 0, whatever the block holds (10_state.md R25). -/
theorem readReg_ptrHiReg_of_w32 {c : Config} (hw : c.ptrW = .w32) (b : Block) (p : Ptr) :
    readReg c b (ptrHiReg p) = 0#32 := by
  cases p <;> simp only [ptrHiReg, readReg, rw64Read, hw]

/-- Settles O14, from the two equations of a pointer's value and the behaviour of the `*_HI` offsets at 32 bits. -/
theorem pointerAssembly : Obligations.PointerAssembly := by
  intro c b
  constructor
  · intro hw
    exact ⟨ptrValue_of_w64 hw b .txBase, ptrValue_of_w64 hw b .rxHead, ptrValue_of_w64 hw b .rxTail,
      ptrValue_of_w64 hw b .rxBase⟩
  · intro hw
    refine ⟨ptrValue_of_w32 hw b .txBase, ptrValue_of_w32 hw b .rxHead, ptrValue_of_w32 hw b .rxTail,
      ptrValue_of_w32 hw b .rxBase, fun off hoff => ?_⟩
    obtain ⟨p, hreg⟩ := regAt_hi_offset hoff
    exact ⟨(readOffset_of_regAt hreg b).trans (readReg_ptrHiReg_of_w32 hw b p), writeOffset_of_rw64_w32 hreg hw b⟩

end Sys2Proof.Machine
end

section
/-! A plain host write replaces input registers and nothing else (10_state.md R22, 20_memory.md R63). -/

namespace Sys2Proof.Machine

/-- The fourteen input registers of the block record (10_state.md R20, R22). -/
def Block.inputs (b : Block) : List Word :=
  [b.arg, b.txCur, b.txDirty, b.txFree, b.txQueued, b.txBaseLo, b.txBaseHi, b.rxCur, b.rxHeadLo, b.rxHeadHi,
    b.rxTailLo, b.rxTailHi, b.rxBaseLo, b.rxBaseHi]

/-- The block with the input registers of `src` and every other field its own. -/
def Block.withInputs (b src : Block) : Block :=
  { b with
    arg := src.arg, txCur := src.txCur, txDirty := src.txDirty, txFree := src.txFree, txQueued := src.txQueued,
    txBaseLo := src.txBaseLo, txBaseHi := src.txBaseHi, rxCur := src.rxCur, rxHeadLo := src.rxHeadLo,
    rxHeadHi := src.rxHeadHi, rxTailLo := src.rxTailLo, rxTailHi := src.rxTailHi, rxBaseLo := src.rxBaseLo,
    rxBaseHi := src.rxBaseHi }

theorem storeReg_eq_withInputs (b : Block) (v : Word) (r : Reg) :
    storeReg b v r = b.withInputs (storeReg b v r) := by
  cases r <;> rfl

theorem ptrHi_storeReg_of_ne {r : Reg} {p : Ptr} (h : r ≠ ptrHiReg p) (b : Block) (v : Word) :
    ptrHi (storeReg b v r) p = ptrHi b p := by
  cases r with
  | txBaseHi | rxHeadHi | rxTailHi | rxBaseHi => cases p <;> simp_all [storeReg, ptrHi, ptrHiReg]
  | _ => cases p <;> rfl

/-- No register with the plain RW code is the high half of a pointer (10_state.md R23). -/
theorem ne_ptrHiReg_of_regAt_rw {off : Nat} {r : Reg} (hreg : regAt off = some (r, .rw)) (p : Ptr) :
    r ≠ ptrHiReg p := by
  have hTable : ∀ row ∈ regTable, row.2.2 = .rw → ∀ q ∈ [Ptr.txBase, .rxHead, .rxTail, .rxBase],
      row.2.1 ≠ ptrHiReg q := by decide
  obtain ⟨above, below, hSplit, -⟩ := List.lookup_eq_some_iff.mp hreg
  exact hTable (off, r, .rw) (by simp [hSplit]) rfl p (by cases p <;> simp)

/-- Everything a plain host write can do: nothing, or the store of one register, which is no
`*_HI` register when `PTR_W = 32`. -/
theorem writeOffset_cases (c : Config) (b : Block) (off : Nat) (v : Word) :
    writeOffset c b off v = b ∨
    ∃ r, (c.ptrW = .w32 → ∀ p, r ≠ ptrHiReg p) ∧ writeOffset c b off v = storeReg b v r := by
  unfold writeOffset
  split
  · next r hreg => exact .inr ⟨r, fun _ => ne_ptrHiReg_of_regAt_rw hreg, rfl⟩
  · next r hreg =>
    cases hw : c.ptrW with
    | w64 => exact .inr ⟨r, nofun, rfl⟩
    | w32 => exact .inl rfl
  · exact .inl rfl
  · exact .inl rfl
  · exact .inl rfl

theorem writeOffset_eq_withInputs (c : Config) (b : Block) (off : Nat) (v : Word) :
    writeOffset c b off v = b.withInputs (writeOffset c b off v) := by
  rcases writeOffset_cases c b off v with hSame | ⟨r, -, hStore⟩
  · rw [hSame]; rfl
  · rw [hStore]; exact storeReg_eq_withInputs b v r

/-- With 32-bit pointers no host write reaches the storage of a `*_HI` register (10_state.md R25). -/
theorem ptrHi_writeOffset_of_w32 {c : Config} (hw : c.ptrW = .w32) (b : Block) (off : Nat) (v : Word) (p : Ptr) :
    ptrHi (writeOffset c b off v) p = ptrHi b p := by
  rcases writeOffset_cases c b off v with hSame | ⟨r, hne, hStore⟩
  · rw [hSame]
  · rw [hStore, ptrHi_storeReg_of_ne (hne hw p)]

end Sys2Proof.Machine
end

section
/-! What each command's body can answer: a Fatal that 60_exceptions.md R171 allows, or the writes of a completion. -/

namespace Sys2Proof.Machine

/-- The four commands that write `RESULT` (10_state.md R40). -/
def WritesResult (i : Instr) : Prop := i = .txFreeAt ∨ i = .txInflAt ∨ i = .txDescAddr ∨ i = .rxDescAddr

/-- `Completes c b i b'`: the command `i`, not SRST, completes on the block `b` and leaves `b'`. `bodyOf_cases` ties
it to the commands' bodies. -/
inductive Completes (c : Config) (b : Block) : Instr → Block → Prop
  | nop : Completes c b .nop b
  | txEval (hCur : b.txCur.toNat < c.nTx) (hDirty : b.txDirty.toNat < c.nTx) :
      Completes c b .txEval (txEvalStore c.nTx b)
  | rxEval (hHead : rxIndex c b .rxHead < c.nRx) (hTail : rxIndex c b .rxTail < c.nRx) :
      Completes c b .rxEval (rxEvalStore c b)
  | result {i : Instr} (hWrites : WritesResult i) (lo hi : Word) (hHi : c.ptrW = .w32 → hi = 0#32) :
      Completes c b i (b.storeResult lo hi)
  | clrWarn : Completes c b .clrWarn b.clearWarn

theorem txEvalBody_cases (c : Config) (b : Block) :
    (∃ which, txEvalBody c b = .error ⟨.txIdxRange, which⟩) ∨
    (b.txCur.toNat < c.nTx ∧ b.txDirty.toNat < c.nTx ∧ txEvalBody c b = .ok (txEvalStore c.nTx b)) := by
  unfold txEvalBody
  split
  · exact .inl ⟨_, rfl⟩
  · next hCur =>
    split
    · exact .inl ⟨_, rfl⟩
    · next hDirty => exact .inr ⟨Nat.lt_of_not_le hCur, Nat.lt_of_not_le hDirty, rfl⟩

theorem rxEvalBody_cases (c : Config) (b : Block) :
    (∃ which, rxEvalBody c b = .error ⟨.rxIdxRange, which⟩) ∨
    (rxIndex c b .rxHead < c.nRx ∧ rxIndex c b .rxTail < c.nRx ∧ rxEvalBody c b = .ok (rxEvalStore c b)) := by
  unfold rxEvalBody
  split
  · exact .inl ⟨_, rfl⟩
  · next hHead =>
    split
    · exact .inl ⟨_, rfl⟩
    · next hTail => exact .inr ⟨Nat.lt_of_not_le hHead, Nat.lt_of_not_le hTail, rfl⟩

theorem listReadBody_cases (start len n : Nat) (b : Block) :
    listReadBody start len n b = .error ⟨.notEvaluated, false⟩ ∨
    listReadBody start len n b = .error ⟨.listRange, false⟩ ∨
    listReadBody start len n b = .ok (b.storeResult (BitVec.ofNat 32 (ringEntry start b.arg.toNat n)) 0#32) := by
  unfold listReadBody
  split
  · exact .inl rfl
  · split
    · exact .inr (.inl rfl)
    · exact .inr (.inr rfl)

theorem addrHi_of_w32 {c : Config} (hw : c.ptrW = .w32) (a : Nat) : addrHi c a = 0#32 := by
  simp only [addrHi, hw]

theorem descAddrBody_cases (n : Nat) (p : Ptr) (c : Config) (b : Block) :
    descAddrBody n p c b = .error ⟨.descIdxRange, false⟩ ∨
    ∃ a, descAddrBody n p c b = .ok (b.storeResult (addrLo a) (addrHi c a)) := by
  unfold descAddrBody
  split
  · exact .inl rfl
  · exact .inr ⟨_, rfl⟩

/-- Everything a command's body can answer. -/
theorem bodyOf_cases {i : Instr} (hi : i ≠ .srst) (c : Config) (b : Block) :
    (∃ e, bodyOf i c b = .error e ∧ legalError e.code (opField (encode i)) e.which = true) ∨
    (∃ b', bodyOf i c b = .ok b' ∧ Completes c b i b') := by
  have listRead (start len n : Nat) (hWrites : WritesResult i)
      (hLegal : ∀ code, code = .notEvaluated ∨ code = .listRange →
        legalError code (opField (encode i)) false = true) :
      (∃ e, listReadBody start len n b = .error e ∧ legalError e.code (opField (encode i)) e.which = true) ∨
      (∃ b', listReadBody start len n b = .ok b' ∧ Completes c b i b') := by
    rcases listReadBody_cases start len n b with hErr | hErr | hOk
    · exact .inl ⟨_, hErr, hLegal _ (.inl rfl)⟩
    · exact .inl ⟨_, hErr, hLegal _ (.inr rfl)⟩
    · exact .inr ⟨_, hOk, .result hWrites _ _ fun _ => rfl⟩
  have descAddr (n : Nat) (p : Ptr) (hWrites : WritesResult i)
      (hLegal : legalError .descIdxRange (opField (encode i)) false = true) :
      (∃ e, descAddrBody n p c b = .error e ∧ legalError e.code (opField (encode i)) e.which = true) ∨
      (∃ b', descAddrBody n p c b = .ok b' ∧ Completes c b i b') := by
    rcases descAddrBody_cases n p c b with hErr | ⟨a, hOk⟩
    · exact .inl ⟨_, hErr, hLegal⟩
    · exact .inr ⟨_, hOk, .result hWrites _ _ fun hw => addrHi_of_w32 hw a⟩
  cases i with
  | nop => exact .inr ⟨b, rfl, .nop⟩
  | txEval =>
    rcases txEvalBody_cases c b with ⟨which, hErr⟩ | ⟨hCur, hDirty, hOk⟩
    · exact .inl ⟨_, hErr, rfl⟩
    · exact .inr ⟨_, hOk, .txEval hCur hDirty⟩
  | txFreeAt => exact listRead _ _ _ (.inl rfl) (by rintro _ (rfl | rfl) <;> rfl)
  | txInflAt => exact listRead _ _ _ (.inr (.inl rfl)) (by rintro _ (rfl | rfl) <;> rfl)
  | rxEval =>
    rcases rxEvalBody_cases c b with ⟨which, hErr⟩ | ⟨hHead, hTail, hOk⟩
    · exact .inl ⟨_, hErr, rfl⟩
    · exact .inr ⟨_, hOk, .rxEval hHead hTail⟩
  | txDescAddr => exact descAddr _ _ (.inr (.inr (.inl rfl))) rfl
  | rxDescAddr => exact descAddr _ _ (.inr (.inr (.inr rfl))) rfl
  | clrWarn => exact .inr ⟨_, rfl, .clrWarn⟩
  | srst => exact absurd rfl hi

/-- RX_EVAL's warning touches `WARN_CNT` only (41_rx_tracker.md R136, 60_exceptions.md R180). -/
theorem rxWarned_eq (hi ti : Nat) (b : Block) :
    rxWarned hi ti b = { b with warnCnt := if hi = ti then warnCntSucc b.warnCnt else b.warnCnt } := by
  unfold rxWarned
  split <;> rfl

/-- The completed RX_EVAL as one record update: the results it stores, and its warning. -/
theorem rxEvalStore_eq (c : Config) (b : Block) :
    rxEvalStore c b = { b with
      warnCnt := if rxIndex c b .rxHead = rxIndex c b .rxTail then warnCntSucc b.warnCnt else b.warnCnt
      rxHeadIdx := BitVec.ofNat 32 (rxIndex c b .rxHead)
      rxTailIdx := BitVec.ofNat 32 (rxIndex c b .rxTail)
      rxDevCnt := BitVec.ofNat 32 (rxDevCount (rxIndex c b .rxHead) (rxIndex c b .rxTail) c.nRx)
      rxDrvCnt := BitVec.ofNat 32 (rxDrvCount (rxIndex c b .rxHead) (rxIndex c b .rxTail) c.nRx)
      rxRes := rxResWord (rxCaseOf (rxIndex c b .rxHead) (rxIndex c b .rxTail))
        (rxRemainder c b .rxHead) (rxRemainder c b .rxTail)
      rxValid := true } := by
  rw [rxEvalStore, rxWarned_eq]
  rfl

/-- A completed command changes no input register (10_state.md R22, R41). -/
theorem Completes.inputs_eq {c : Config} {b b' : Block} {i : Instr} (h : Completes c b i b') :
    b'.inputs = b.inputs := by
  cases h with
  | nop | txEval | result | clrWarn => rfl
  | rxEval => rw [rxEvalStore_eq]; rfl

/-- RX_EVAL completes in one way only. -/
theorem Completes.of_rxEval {c : Config} {b b' : Block} (h : Completes c b .rxEval b') :
    rxIndex c b .rxHead < c.nRx ∧ rxIndex c b .rxTail < c.nRx ∧ b' = rxEvalStore c b := by
  cases h with
  | rxEval hHead hTail => exact ⟨hHead, hTail, rfl⟩
  | result hWrites => rcases hWrites with h | h | h | h <;> cases h

/-- A completed command does not halt the block (60_exceptions.md R172). -/
theorem Completes.halt_eq {c : Config} {b b' : Block} {i : Instr} (h : Completes c b i b') :
    b'.halt = b.halt := by
  cases h with
  | nop | txEval | result | clrWarn => rfl
  | rxEval => rw [rxEvalStore_eq]

end Sys2Proof.Machine
end

section
/-! What one step can do to the block record (70_reset_and_hazards.md R203), said once for every invariant. -/

namespace Sys2Proof

/-- A word that decodes to a command is that command's word (30_encoding.md R82). -/
theorem eq_encode_of_decode {w : Word} {i : Instr} (h : decode w = .ok i) : w = encode i := by
  unfold decode at h
  split at h
  · cases h
  · next hReserved =>
    have hSmall : w.toNat < 16 := (rsvdField_eq_zero_iff w).mp (not_not.mp hReserved)
    have hOp : w.toNat = (opField w).toNat := by rw [opField_toNat]; omega
    split at h <;> cases h <;> exact BitVec.eq_of_toNat_eq (hOp.trans ‹_›)

end Sys2Proof

namespace Sys2Proof.Machine

/-- A word that is no command takes an ILLEGAL_CMD that R171 allows: WHICH is set, or `OP` is in 0x8 to 0xE
(30_encoding.md R84). -/
theorem legalError_of_decode_error {w : Word} {d : DecodeError} (h : decode w = .error d) :
    legalError .illegalCmd (opField w) (illegalWhich d) = true := by
  have hOp := (opField w).isLt
  unfold decode at h
  split at h
  · cases h; rfl
  · split at h <;> cases h
    simp only [legalError, illegalWhich, Bool.false_or, Bool.and_eq_true, decide_eq_true_eq]
    grind

/-- Everything an answered command can leave, Fatal included; it always keeps the parameters. -/
theorem exec_next_cases {i : Instr} {s t : State} (h : exec i s = .next t) : t.cfg = s.cfg ∧
    ((i = .srst ∧ t.blk = Block.reset) ∨
     (i ≠ .srst ∧ s.blk.halt = true ∧ t.blk = s.blk) ∨
     (s.blk.halt = false ∧ Completes s.cfg s.blk i t.blk) ∨
     (∃ e, s.blk.halt = false ∧ legalError e.code (opField (encode i)) e.which = true ∧
       t.blk = s.blk.enterFatal (opField (encode i)) e)) := by
  rcases exec_cases i s with ⟨hi, hx⟩ | ⟨hi, hHalt, hx⟩ | ⟨b, hi, hRun, hBody, hx⟩ | ⟨e, hi, hRun, hBody, hx⟩ <;>
    obtain rfl := Host.Outcome.next.inj (h.symm.trans hx)
  · exact ⟨rfl, .inl ⟨hi, rfl⟩⟩
  · exact ⟨rfl, .inr (.inl ⟨hi, hHalt, rfl⟩)⟩
  · rcases bodyOf_cases hi s.cfg s.blk with ⟨e, hErr, -⟩ | ⟨b', hOk, hDone⟩
    · exact absurd (hBody.symm.trans hErr) nofun
    · obtain rfl := Except.ok.inj (hBody.symm.trans hOk)
      exact ⟨rfl, .inr (.inr (.inl ⟨hRun, hDone⟩))⟩
  · rcases bodyOf_cases hi s.cfg s.blk with ⟨e', hErr, hLegal⟩ | ⟨b', hOk, -⟩
    · obtain rfl := Except.error.inj (hBody.symm.trans hErr)
      exact ⟨rfl, .inr (.inr (.inr ⟨e, hRun, hLegal, rfl⟩))⟩
    · exact absurd (hBody.symm.trans hOk) nofun

/-- `StepBlock s b`: the block record `b` is one that the step from `s` can leave, by what the next event is.
`step_next_cases` ties it to `step`. -/
inductive StepBlock (s : State) : Block → Prop
  /-- No event, a read, or a command ignored while halted. -/
  | kept : StepBlock s s.blk
  | reset (hNext : NextIsReset s) : StepBlock s Block.reset
  /-- A host write to another offset than that of `CMD`. -/
  | stored (off : Nat) (v : Word) : StepBlock s (writeOffset s.cfg s.blk off v)
  | completed {i : Instr} {b : Block} (hNext : NextIsCommand s i) (hRun : s.blk.halt = false)
      (hDone : Completes s.cfg s.blk i b) : StepBlock s b
  /-- A word written to `CMD` that takes a Fatal, a command's or ILLEGAL_CMD. -/
  | fatal {w : Word} {rest : List Event} {e : FatalError} (hNext : s.pending = cmdWrite s.cfg w :: rest)
      (hRun : s.blk.halt = false) (hLegal : legalError e.code (opField w) e.which = true) :
      StepBlock s (s.blk.enterFatal (opField w) e)

/-- The write of SRST's word to `CMD` clears `HALT` (60_exceptions.md R175). -/
theorem clearsHalt_srst (c : Config) : clearsHalt c (cmdWrite c (encode .srst)) = true := by
  simp only [cmdWrite, clearsHalt, decide_true, Bool.and_true, decide_eq_true_eq]
  exact windowOffset_base_add (by decide) (by decide)

/-- A written word runs the command it decodes to, or takes ILLEGAL_CMD (30_encoding.md R80, R84). -/
theorem runWord_next_cases {s u t : State} {w : Word} {rest : List Event}
    (hNext : s.pending = cmdWrite s.cfg w :: rest) (h : runWord w u = .next t) (hcfg : u.cfg = s.cfg)
    (hblk : u.blk = s.blk) : t.cfg = s.cfg ∧ StepBlock s t.blk := by
  unfold runWord at h
  split at h
  · next i hDecode =>
    obtain rfl := eq_encode_of_decode hDecode
    obtain ⟨htcfg, hCases⟩ := exec_next_cases h
    refine ⟨htcfg.trans hcfg, ?_⟩
    rw [hcfg, hblk] at hCases
    rcases hCases with ⟨rfl, hb⟩ | ⟨-, -, hb⟩ | ⟨hRun, hDone⟩ | ⟨e, hRun, hLegal, hb⟩
    · exact hb ▸ .reset ⟨_, rest, hNext, clearsHalt_srst s.cfg⟩
    · exact hb ▸ .kept
    · exact .completed ⟨rest, hNext⟩ hRun hDone
    · exact hb ▸ .fatal hNext hRun hLegal
  · next d hDecode =>
    rcases runBody_cases (opField w) (fun _ _ => .error ⟨.illegalCmd, illegalWhich d⟩) u with
      ⟨-, hx⟩ | ⟨b, -, hBody, -⟩ | ⟨e, hRun, hBody, hx⟩
    · obtain rfl := Host.Outcome.next.inj (h.symm.trans hx)
      exact ⟨hcfg, hblk ▸ .kept⟩
    · cases hBody
    · obtain rfl := Host.Outcome.next.inj (h.symm.trans hx)
      obtain rfl := Except.error.inj hBody
      refine ⟨hcfg, ?_⟩
      rw [State.withBlk_blk, hblk]
      exact .fatal hNext (hblk ▸ hRun) (legalError_of_decode_error hDecode)

/-- Everything a step can do: the parameters stay, and the block record is one of the cases of `StepBlock`. -/
theorem step_next_cases {s t : State} (h : step s = .next t) : t.cfg = s.cfg ∧ StepBlock s t.blk := by
  cases hNext : s.pending with
  | nil =>
    obtain rfl := Host.Outcome.next.inj ((step_idle hNext).symm.trans h)
    exact ⟨rfl, .kept⟩
  | cons e rest =>
    rw [step_cons hNext] at h
    rcases serveEvent_cases e (s.withPending rest) with
      ⟨rfl, hx⟩ | ⟨a, -, -, hx⟩ | ⟨a, off, -, -, hx⟩ | ⟨a, off, v, -, -, -, hx⟩ | ⟨w, rfl, hx⟩
    · obtain rfl := Host.Outcome.next.inj (h.symm.trans hx)
      exact ⟨rfl, .reset ⟨_, rest, hNext, rfl⟩⟩
    · exact absurd (h.symm.trans hx) nofun
    · obtain rfl := Host.Outcome.next.inj (h.symm.trans hx)
      exact ⟨rfl, .kept⟩
    · obtain rfl := Host.Outcome.next.inj (h.symm.trans hx)
      exact ⟨rfl, .stored off v⟩
    · exact runWord_next_cases hNext (hx.symm.trans h) rfl rfl

end Sys2Proof.Machine
end

section
/-! The numbers a completed command stores fit their registers, so the registers record them exactly. -/

namespace Sys2Proof.Machine

/-- The ring capacities are positive and fit a register (00_scope.md R5, R6). -/
theorem capacities_of_wf {c : Config} (h : c.wf = true) :
    0 < c.nTx ∧ c.nTx < 2 ^ 32 ∧ 0 < c.nRx ∧ c.nRx < 2 ^ 32 := by
  simp only [Config.wf, Bool.and_eq_true, decide_eq_true_eq] at h
  omega

theorem rxDevCount_le {hi ti n : Nat} (hHead : hi < n) (hTail : ti < n) : rxDevCount hi ti n ≤ n := by
  unfold rxDevCount
  split
  · exact Nat.zero_le n
  · split <;> omega

theorem rxDrvCount_le (hi ti n : Nat) : rxDrvCount hi ti n ≤ n := Nat.sub_le n _

/-- A completed TX_EVAL records its snapshot (40_tx_tracker.md R106). -/
theorem txRecorded_txEvalStore {n : Nat} {b : Block} (hn : n < 2 ^ 32) (hCur : b.txCur.toNat < n)
    (hDirty : b.txDirty.toNat < n) : TxRecorded n (txEvalStore n b) := by
  have hFree (k : TxCase) : (BitVec.ofNat 32 (freeLen b.txCur.toNat b.txDirty.toNat k n)).toNat =
      (freeList b.txCur.toNat b.txDirty.toNat k n).length := by
    have hLe := freeLen_le (c := b.txCur.toNat) (d := b.txDirty.toNat) k (Nat.zero_lt_of_lt hCur)
    rw [freeList_length k hCur hDirty, BitVec.toNat_ofNat, Nat.mod_eq_of_lt (hLe.trans_lt hn)]
  have hInfl (k : TxCase) : (BitVec.ofNat 32 (inflLen b.txCur.toNat b.txDirty.toNat k n)).toNat =
      (inflList b.txCur.toNat b.txDirty.toNat k n).length := by
    have hLe := inflLen_le (c := b.txCur.toNat) (d := b.txDirty.toNat) k (Nat.zero_lt_of_lt hCur)
    rw [inflList_length k hCur hDirty, BitVec.toNat_ofNat, Nat.mod_eq_of_lt (hLe.trans_lt hn)]
  exact ⟨hCur, hDirty, b.txFree, b.txQueued, rfl, hFree _, hInfl _⟩

/-- A completed RX_EVAL records the two derived indices (41_rx_tracker.md R136). -/
theorem rxRecorded_rxEvalStore {c : Config} {b : Block} (hn : c.nRx < 2 ^ 32)
    (hHead : rxIndex c b .rxHead < c.nRx) (hTail : rxIndex c b .rxTail < c.nRx) :
    RxRecorded c.nRx (rxEvalStore c b) := by
  have stored {k : Nat} (hk : k ≤ c.nRx) : (BitVec.ofNat 32 k).toNat = k := by
    rw [BitVec.toNat_ofNat, Nat.mod_eq_of_lt (hk.trans_lt hn)]
  rw [rxEvalStore_eq]
  simp only [RxRecorded, stored hHead.le, stored hTail.le, stored (rxDevCount_le hHead hTail),
    stored (rxDrvCount_le _ _ _)]
  exact ⟨hHead, hTail, trivial, trivial, _, _, rfl⟩

end Sys2Proof.Machine
end

section
/-! Each update of the block record keeps `GoodState`, and so does each step. -/

namespace Sys2Proof.Machine

/-- `GoodState` speaks of the parameters and the block record only. -/
theorem GoodState.of_withBlk {s t : State} (h : GoodState (s.withBlk t.blk)) (hcfg : t.cfg = s.cfg) :
    GoodState t := by
  obtain ⟨cfg, blk, pending, reply⟩ := t
  obtain rfl : cfg = s.cfg := hcfg
  exact { h with }

section
variable {s : State}

theorem goodState_reset (hwf : s.cfg.wf = true) : GoodState (s.withBlk Block.reset) where
  cfg_wf := hwf
  hi_zero _ := ⟨rfl, rfl, rfl, rfl, rfl⟩
  tx_none _ := ⟨rfl, rfl, rfl, rfl, rfl⟩
  tx_some := nofun
  rx_none _ := ⟨rfl, rfl, rfl, rfl, rfl⟩
  rx_some := nofun
  err_none _ := rfl
  err_some := nofun

/-- A plain host write reaches input registers only, and no `*_HI` register at 32 bits. -/
theorem GoodState.writeOffset (h : GoodState s) (off : Nat) (v : Word) :
    GoodState (s.withBlk (writeOffset s.cfg s.blk off v)) := by
  have hHi (hw : s.cfg.ptrW = .w32) (p : Ptr) := ptrHi_writeOffset_of_w32 hw s.blk off v p
  rw [writeOffset_eq_withInputs]
  refine { h with hi_zero := fun hw => ?_ }
  obtain ⟨hTxBase, hRxHead, hRxTail, hRxBase, hResult⟩ := h.hi_zero hw
  exact ⟨(hHi hw .txBase).trans hTxBase, (hHi hw .rxHead).trans hRxHead, (hHi hw .rxTail).trans hRxTail,
    (hHi hw .rxBase).trans hRxBase, hResult⟩

/-- A Fatal replaces the error record by a legal one (60_exceptions.md R171, R173). -/
theorem GoodState.enterFatal (h : GoodState s) {op : BitVec 4} {e : FatalError}
    (hLegal : legalError e.code op e.which = true) : GoodState (s.withBlk (s.blk.enterFatal op e)) :=
  { h with err_none := nofun, err_some := fun _ => ⟨e.code, op, e.which, rfl, hLegal⟩ }

theorem GoodState.storeResult (h : GoodState s) (lo : Word) {hi : Word} (hHi : s.cfg.ptrW = .w32 → hi = 0#32) :
    GoodState (s.withBlk (s.blk.storeResult lo hi)) := by
  refine { h with hi_zero := fun hw => ?_ }
  obtain ⟨hTxBase, hRxHead, hRxTail, hRxBase, -⟩ := h.hi_zero hw
  exact ⟨hTxBase, hRxHead, hRxTail, hRxBase, hHi hw⟩

theorem GoodState.clearWarn (h : GoodState s) : GoodState (s.withBlk s.blk.clearWarn) := { h with }

theorem GoodState.txEvalStore (h : GoodState s) (hCur : s.blk.txCur.toNat < s.cfg.nTx)
    (hDirty : s.blk.txDirty.toNat < s.cfg.nTx) : GoodState (s.withBlk (txEvalStore s.cfg.nTx s.blk)) := by
  obtain ⟨-, hn, -, -⟩ := capacities_of_wf h.cfg_wf
  exact { h with tx_none := nofun, tx_some := fun _ => txRecorded_txEvalStore hn hCur hDirty }

theorem GoodState.rxEvalStore (h : GoodState s) (hHead : rxIndex s.cfg s.blk .rxHead < s.cfg.nRx)
    (hTail : rxIndex s.cfg s.blk .rxTail < s.cfg.nRx) : GoodState (s.withBlk (rxEvalStore s.cfg s.blk)) := by
  obtain ⟨-, -, -, hn⟩ := capacities_of_wf h.cfg_wf
  have hRecorded := rxRecorded_rxEvalStore hn hHead hTail
  rw [rxEvalStore_eq] at hRecorded ⊢
  exact { h with rx_none := nofun, rx_some := fun _ => hRecorded }

theorem GoodState.completes (h : GoodState s) {i : Instr} {b : Block} (hDone : Completes s.cfg s.blk i b) :
    GoodState (s.withBlk b) := by
  cases hDone with
  | nop => exact { h with }
  | txEval hCur hDirty => exact h.txEvalStore hCur hDirty
  | rxEval hHead hTail => exact h.rxEvalStore hHead hTail
  | result _ lo hi hHi => exact h.storeResult lo hHi
  | clrWarn => exact h.clearWarn

theorem GoodState.stepBlock (h : GoodState s) {b : Block} (hBlock : StepBlock s b) : GoodState (s.withBlk b) := by
  cases hBlock with
  | kept => exact { h with }
  | reset => exact goodState_reset h.cfg_wf
  | stored off v => exact h.writeOffset off v
  | completed _ _ hDone => exact h.completes hDone
  | fatal _ _ hLegal => exact h.enterFatal hLegal

end

/-- Settles O5, by the cases of one step: each leaves the block record by an update that keeps `GoodState`. -/
theorem stepKeepsGoodState : Obligations.StepKeepsGoodState := by
  intro s t h hStep
  obtain ⟨hcfg, hBlock⟩ := step_next_cases hStep
  exact (h.stepBlock hBlock).of_withBlk hcfg

end Sys2Proof.Machine
end

section
/-! What the registers of a good state read as (10_state.md R28, R37, R39, R40). -/

namespace Sys2Proof.Machine

theorem TxRecorded.in_range {n : Nat} {b : Block} (h : TxRecorded n b) :
    b.txRes.extractLsb' 5 27 = 0#27 ∧ b.txFreeCnt.toNat ≤ n ∧ b.txInflCnt.toNat ≤ n := by
  obtain ⟨hCur, hDirty, f, q, hRes, hFree, hInfl⟩ := h
  have hn : 0 < n := Nat.zero_lt_of_lt hCur
  rw [hRes, hFree, hInfl, freeList_length _ hCur hDirty, inflList_length _ hCur hDirty]
  exact ⟨txResWord_reserved _ _ _ _, freeLen_le _ hn, inflLen_le _ hn⟩

theorem RxRecorded.in_range {n : Nat} {b : Block} (h : RxRecorded n b) :
    b.rxRes.extractLsb' 4 28 = 0#28 ∧ b.rxHeadIdx.toNat < n ∧ b.rxTailIdx.toNat < n ∧
    b.rxDevCnt.toNat ≤ n ∧ b.rxDrvCnt.toNat ≤ n := by
  obtain ⟨hHead, hTail, hDev, hDrv, hrem, trem, hRes⟩ := h
  rw [hRes, hDev, hDrv]
  exact ⟨rxResWord_reserved _ _ _, hHead, hTail, rxDevCount_le hHead hTail, rxDrvCount_le _ _ n⟩

section
variable {s : State}

theorem GoodState.tx_in_range (h : GoodState s) :
    s.blk.txRes.extractLsb' 5 27 = 0#27 ∧ s.blk.txFreeCnt.toNat ≤ s.cfg.nTx ∧ s.blk.txInflCnt.toNat ≤ s.cfg.nTx := by
  cases hValid : s.blk.txValid with
  | true => exact (h.tx_some hValid).in_range
  | false =>
    obtain ⟨hRes, hFree, hInfl, -, -⟩ := h.tx_none hValid
    rw [hRes, hFree, hInfl]
    exact ⟨rfl, Nat.zero_le _, Nat.zero_le _⟩

theorem GoodState.rx_in_range (h : GoodState s) :
    s.blk.rxRes.extractLsb' 4 28 = 0#28 ∧ s.blk.rxHeadIdx.toNat < s.cfg.nRx ∧ s.blk.rxTailIdx.toNat < s.cfg.nRx ∧
    s.blk.rxDevCnt.toNat ≤ s.cfg.nRx ∧ s.blk.rxDrvCnt.toNat ≤ s.cfg.nRx := by
  cases hValid : s.blk.rxValid with
  | true => exact (h.rx_some hValid).in_range
  | false =>
    obtain ⟨-, -, hn, -⟩ := capacities_of_wf h.cfg_wf
    obtain ⟨hRes, hHead, hTail, hDev, hDrv⟩ := h.rx_none hValid
    rw [hRes, hHead, hTail, hDev, hDrv]
    exact ⟨rfl, hn, hn, Nat.zero_le _, Nat.zero_le _⟩

theorem GoodState.errInfo_reserved (h : GoodState s) : s.blk.errInfo.extractLsb' 13 19 = 0#19 := by
  cases hHalt : s.blk.halt with
  | true =>
    obtain ⟨code, op, which, hErr, -⟩ := h.err_some hHalt
    rw [hErr, errInfoWord_reserved]
  | false => rw [h.err_none hHalt]; rfl

theorem GoodState.resultHi_of_w32 (h : GoodState s) (hw : s.cfg.ptrW = .w32) : s.blk.resultHi = 0#32 := by
  obtain ⟨-, -, -, -, hResult⟩ := h.hi_zero hw
  exact hResult

end

/-- Settles O16, group by group: a recorded evaluation is in range, and so is the reset value. -/
theorem goodStatesReadInRange : Obligations.GoodStatesReadInRange := by
  intro s h
  obtain ⟨hTxRes, hFree, hInfl⟩ := h.tx_in_range
  obtain ⟨hRxRes, hHead, hTail, hDev, hDrv⟩ := h.rx_in_range
  exact ⟨hTxRes, hRxRes, h.errInfo_reserved, hFree, hInfl, hHead, hTail, hDev, hDrv, h.resultHi_of_w32⟩

end Sys2Proof.Machine
end

section
/-! Who writes what: the result registers, the warning count, the inputs and the parameters. -/

namespace Sys2Proof.Machine

/-- The TX results and the latch are the same in both records (10_state.md R36, R37, R50). -/
def TxResultsKept (b b' : Block) : Prop :=
  b'.txRes = b.txRes ∧ b'.txFreeCnt = b.txFreeCnt ∧ b'.txInflCnt = b.txInflCnt ∧ b'.sCur = b.sCur ∧
  b'.sDirty = b.sDirty ∧ b'.txValid = b.txValid

/-- The RX results are the same in both records (10_state.md R38, R39). -/
def RxResultsKept (b b' : Block) : Prop :=
  b'.rxRes = b.rxRes ∧ b'.rxHeadIdx = b.rxHeadIdx ∧ b'.rxTailIdx = b.rxTailIdx ∧ b'.rxDevCnt = b.rxDevCnt ∧
  b'.rxDrvCnt = b.rxDrvCnt ∧ b'.rxValid = b.rxValid

/-- `RESULT` is the same in both records (10_state.md R40). -/
def ResultKept (b b' : Block) : Prop := b'.resultLo = b.resultLo ∧ b'.resultHi = b.resultHi

/-- Two records that differ in input registers, `HALT`, `WARN_CNT` and `ERR_INFO` only hold the same results. -/
theorem results_kept_of_withInputs (b src : Block) (halt : Bool) (warnCnt errInfo : Word) :
    TxResultsKept b { b.withInputs src with halt, warnCnt, errInfo } ∧
    RxResultsKept b { b.withInputs src with halt, warnCnt, errInfo } ∧
    ResultKept b { b.withInputs src with halt, warnCnt, errInfo } :=
  ⟨⟨rfl, rfl, rfl, rfl, rfl, rfl⟩, ⟨rfl, rfl, rfl, rfl, rfl, rfl⟩, ⟨rfl, rfl⟩⟩

section
variable {c : Config} {b b' : Block} {i : Instr}

theorem Completes.tx_writer (h : Completes c b i b') :
    TxResultsKept b b' ∨ i = .txEval ∧ b'.txValid = true := by
  cases h with
  | txEval => exact .inr ⟨rfl, rfl⟩
  | rxEval => rw [rxEvalStore_eq]; exact .inl ⟨rfl, rfl, rfl, rfl, rfl, rfl⟩
  | nop | result | clrWarn => exact .inl ⟨rfl, rfl, rfl, rfl, rfl, rfl⟩

theorem Completes.rx_writer (h : Completes c b i b') :
    RxResultsKept b b' ∨ i = .rxEval ∧ b'.rxValid = true := by
  cases h with
  | rxEval => exact .inr ⟨rfl, rfl⟩
  | nop | txEval | result | clrWarn => exact .inl ⟨rfl, rfl, rfl, rfl, rfl, rfl⟩

theorem Completes.result_writer (h : Completes c b i b') : ResultKept b b' ∨ WritesResult i := by
  cases h with
  | result hWrites => exact .inr hWrites
  | rxEval => rw [rxEvalStore_eq]; exact .inl ⟨rfl, rfl⟩
  | nop | txEval | clrWarn => exact .inl ⟨rfl, rfl⟩

/-- A completed command leaves `WARN_CNT`, or is CLR_WARN, or is an RX_EVAL that warns (10_state.md R34). -/
theorem Completes.warnCnt_cases (h : Completes c b i b') :
    b'.warnCnt = b.warnCnt ∨ (i = .clrWarn ∧ b'.warnCnt = 0#32) ∨
    (i = .rxEval ∧ b'.warnCnt = warnCntSucc b.warnCnt) := by
  cases h with
  | nop | txEval | result => exact .inl rfl
  | clrWarn => exact .inr (.inl ⟨rfl, rfl⟩)
  | rxEval =>
    rw [rxEvalStore_eq]
    split
    · exact .inr (.inr ⟨rfl, rfl⟩)
    · exact .inl rfl

end

section
variable {s : State} {b : Block}

theorem NextIsCommand.of_writesResult {i : Instr} (hNext : NextIsCommand s i) (hWrites : WritesResult i) :
    NextIsCommand s .txFreeAt ∨ NextIsCommand s .txInflAt ∨ NextIsCommand s .txDescAddr ∨
      NextIsCommand s .rxDescAddr := by
  rcases hWrites with rfl | rfl | rfl | rfl
  · exact .inl hNext
  · exact .inr (.inl hNext)
  · exact .inr (.inr (.inl hNext))
  · exact .inr (.inr (.inr hNext))

/-- Each group of result registers has its writers, resets apart (10_state.md R36 to R40, R50). -/
theorem StepBlock.result_writers (h : StepBlock s b) :
    NextIsReset s ∨
    ((TxResultsKept s.blk b ∨
        NextIsCommand s .txEval ∧ s.blk.halt = false ∧ b.halt = false ∧ b.txValid = true) ∧
     (RxResultsKept s.blk b ∨
        NextIsCommand s .rxEval ∧ s.blk.halt = false ∧ b.halt = false ∧ b.rxValid = true) ∧
     (ResultKept s.blk b ∨
        (NextIsCommand s .txFreeAt ∨ NextIsCommand s .txInflAt ∨ NextIsCommand s .txDescAddr ∨
          NextIsCommand s .rxDescAddr) ∧ s.blk.halt = false ∧ b.halt = false)) := by
  cases h with
  | reset hNext => exact .inl hNext
  | kept =>
    obtain ⟨hTx, hRx, hResult⟩ := results_kept_of_withInputs s.blk s.blk s.blk.halt s.blk.warnCnt s.blk.errInfo
    exact .inr ⟨.inl hTx, .inl hRx, .inl hResult⟩
  | stored off v =>
    rw [writeOffset_eq_withInputs]
    obtain ⟨hTx, hRx, hResult⟩ := results_kept_of_withInputs s.blk (writeOffset s.cfg s.blk off v) s.blk.halt
      s.blk.warnCnt s.blk.errInfo
    exact .inr ⟨.inl hTx, .inl hRx, .inl hResult⟩
  | @fatal w _ e _ _ _ =>
    obtain ⟨hTx, hRx, hResult⟩ := results_kept_of_withInputs s.blk s.blk true s.blk.warnCnt
      (errInfoWord e.code (opField w) e.which)
    exact .inr ⟨.inl hTx, .inl hRx, .inl hResult⟩
  | completed hNext hRun hDone =>
    have hStill : b.halt = false := hDone.halt_eq.trans hRun
    refine .inr ⟨hDone.tx_writer.imp_right ?_, hDone.rx_writer.imp_right ?_, hDone.result_writer.imp_right ?_⟩
    · rintro ⟨rfl, hValid⟩; exact ⟨hNext, hRun, hStill, hValid⟩
    · rintro ⟨rfl, hValid⟩; exact ⟨hNext, hRun, hStill, hValid⟩
    · exact fun hWrites => ⟨hNext.of_writesResult hWrites, hRun, hStill⟩

/-- Below saturation one `warn()` adds one (60_exceptions.md R180). -/
theorem warnCntSucc_toNat_of_ne {w : Word} (h : warnCntSucc w ≠ w) : (warnCntSucc w).toNat = w.toNat + 1 := by
  rw [warnCntSucc_toNat]
  have hBelow : w.toNat ≠ 0xFFFFFFFF := by
    rintro hMax
    exact h (BitVec.eq_of_toNat_eq (by rw [warnCntSucc_toNat, hMax]; rfl))
  omega

/-- A step that changes `WARN_CNT` is a reset, a CLR_WARN or an RX_EVAL that warns (10_state.md R34). -/
theorem StepBlock.warnCnt_changes (h : StepBlock s b) (hChanged : b.warnCnt ≠ s.blk.warnCnt) :
    (NextIsReset s ∧ b.warnCnt = 0#32) ∨
    (NextIsCommand s .clrWarn ∧ s.blk.halt = false ∧ b.warnCnt = 0#32) ∨
    (NextIsCommand s .rxEval ∧ s.blk.halt = false ∧ b.halt = false ∧
      b.warnCnt.toNat = s.blk.warnCnt.toNat + 1) := by
  cases h with
  | kept => exact absurd rfl hChanged
  | reset hNext => exact .inl ⟨hNext, rfl⟩
  | stored off v => rw [writeOffset_eq_withInputs] at hChanged; exact absurd rfl hChanged
  | fatal => exact absurd rfl hChanged
  | completed hNext hRun hDone =>
    rcases hDone.warnCnt_cases with hSame | ⟨rfl, hZero⟩ | ⟨rfl, hSucc⟩
    · exact absurd hSame hChanged
    · exact .inr (.inl ⟨hNext, hRun, hZero⟩)
    · rw [hSucc] at hChanged
      refine .inr (.inr ⟨hNext, hRun, hDone.halt_eq.trans hRun, ?_⟩)
      rw [hSucc, warnCntSucc_toNat_of_ne hChanged]

end

/-- Settles O36, from the writers of each group over the cases of one step. -/
theorem resultRegistersHaveTheirWriters : Obligations.ResultRegistersHaveTheirWriters := by
  intro s t hStep
  obtain ⟨-, hBlock⟩ := step_next_cases hStep
  exact hBlock.result_writers

/-- A completed RX_EVAL warns exactly when the two indices it stores are equal (10_state.md R34, 41_rx_tracker.md
R136). -/
theorem rxEvalStore_warnCnt {c : Config} {b : Block} (hn : c.nRx < 2 ^ 32)
    (hHead : rxIndex c b .rxHead < c.nRx) (hTail : rxIndex c b .rxTail < c.nRx) :
    (rxEvalStore c b).warnCnt.toNat = if (rxEvalStore c b).rxHeadIdx = (rxEvalStore c b).rxTailIdx
      then min (b.warnCnt.toNat + 1) 0xFFFFFFFF else b.warnCnt.toNat := by
  have hIff : BitVec.ofNat 32 (rxIndex c b .rxHead) = BitVec.ofNat 32 (rxIndex c b .rxTail) ↔
      rxIndex c b .rxHead = rxIndex c b .rxTail := by
    rw [← BitVec.toNat_inj, BitVec.toNat_ofNat, BitVec.toNat_ofNat, Nat.mod_eq_of_lt (hHead.trans hn),
      Nat.mod_eq_of_lt (hTail.trans hn)]
  simp only [rxEvalStore_eq, hIff]
  split
  · exact warnCntSucc_toNat b.warnCnt
  · rfl

/-- Settles O35: the first clause by the one completion RX_EVAL has, the second by the cases of one step. -/
theorem warnCountChangesOnlyAsCounted : Obligations.WarnCountChangesOnlyAsCounted := by
  refine ⟨fun s t hwf hRun hExec hStill => ?_, fun s t hStep hChanged => ?_⟩
  · obtain ⟨-, -, -, hn⟩ := capacities_of_wf hwf
    obtain ⟨-, ⟨hi, -⟩ | ⟨-, hHalt, -⟩ | ⟨-, hDone⟩ | ⟨e, -, -, hb⟩⟩ := exec_next_cases hExec
    · exact absurd hi nofun
    · exact absurd (hRun.symm.trans hHalt) nofun
    · obtain ⟨hHead, hTail, hb⟩ := hDone.of_rxEval
      rw [hb]
      exact rxEvalStore_warnCnt hn hHead hTail
    · rw [hb] at hStill
      exact absurd hStill nofun
  · obtain ⟨-, hBlock⟩ := step_next_cases hStep
    exact hBlock.warnCnt_changes hChanged

/-- No command but SRST changes an input register, whether it is ignored, completes or takes its Fatal. -/
theorem exec_inputs_eq {i : Instr} {s t : State} (hi : i ≠ .srst) (h : exec i s = .next t) :
    t.blk.inputs = s.blk.inputs := by
  obtain ⟨-, ⟨hSrst, -⟩ | ⟨-, -, hb⟩ | ⟨-, hDone⟩ | ⟨e, -, -, hb⟩⟩ := exec_next_cases h
  · exact absurd hSrst hi
  · rw [hb]
  · exact hDone.inputs_eq
  · rw [hb]; rfl

/-- Settles O37: the fourteen registers are the list of inputs, which every command but SRST keeps. -/
theorem commandsKeepTheInputRegisters : Obligations.CommandsKeepTheInputRegisters := by
  intro i s t hi hExec
  simpa [Block.inputs] using exec_inputs_eq hi hExec

theorem readOffset_cap_eq (c : Config) (b b' : Block) {off : Nat} (hoff : off = 0x08 ∨ off = 0x0C ∨ off = 0x10) :
    readOffset c b off = readOffset c b' off := by
  rcases hoff with rfl | rfl | rfl <;> rfl

/-- Settles O39: a step keeps the parameters, and a `CAP_*` register reads nothing else. -/
theorem parametersNeverChange : Obligations.ParametersNeverChange := by
  intro s t hStep
  obtain ⟨hcfg, -⟩ := step_next_cases hStep
  refine ⟨hcfg, fun off hoff => ?_⟩
  rw [hcfg]
  exact readOffset_cap_eq s.cfg t.blk s.blk hoff

end Sys2Proof.Machine
end

section
/-! `RX_CUR` is read by no command (10_state.md R42). -/

namespace Sys2Proof.Machine

/-- The block with another value in `RX_CUR`. -/
def Block.setRxCur (b : Block) (v : Word) : Block := { b with rxCur := v }

section
variable (c : Config) (b : Block) (v : Word)

theorem rxOffset_setRxCur (p : Ptr) : rxOffset c (b.setRxCur v) p = rxOffset c b p := by
  cases p <;> rfl

theorem rxIndex_setRxCur (p : Ptr) : rxIndex c (b.setRxCur v) p = rxIndex c b p := by
  rw [rxIndex, rxOffset_setRxCur]
  rfl

theorem rxEvalStore_setRxCur : rxEvalStore c (b.setRxCur v) = (rxEvalStore c b).setRxCur v := by
  simp only [rxEvalStore_eq, rxIndex_setRxCur, rxRemainder, rxOffset_setRxCur]
  rfl

theorem txEvalBody_setRxCur : txEvalBody c (b.setRxCur v) = (txEvalBody c b).map (·.setRxCur v) := by
  simp only [txEvalBody, apply_ite (Except.map _)]
  rfl

theorem rxEvalBody_setRxCur : rxEvalBody c (b.setRxCur v) = (rxEvalBody c b).map (·.setRxCur v) := by
  simp only [rxEvalBody, apply_ite (Except.map _), rxEvalStore_setRxCur, rxIndex_setRxCur]
  rfl

theorem listReadBody_setRxCur (start len n : Nat) :
    listReadBody start len n (b.setRxCur v) = (listReadBody start len n b).map (·.setRxCur v) := by
  simp only [listReadBody, apply_ite (Except.map _)]
  rfl

theorem descAddrBody_setRxCur (n : Nat) (p : Ptr) :
    descAddrBody n p c (b.setRxCur v) = (descAddrBody n p c b).map (·.setRxCur v) := by
  have hPtr : ptrValue c (b.setRxCur v) p = ptrValue c b p := by cases p <;> rfl
  simp only [descAddrBody, apply_ite (Except.map _), hPtr]
  rfl

/-- Every body but SRST's commutes with a change of `RX_CUR`. -/
theorem bodyOf_setRxCur {i : Instr} (hi : i ≠ .srst) :
    bodyOf i c (b.setRxCur v) = (bodyOf i c b).map (·.setRxCur v) := by
  cases i with
  | nop | clrWarn => rfl
  | txEval => exact txEvalBody_setRxCur c b v
  | rxEval => exact rxEvalBody_setRxCur c b v
  | txFreeAt | txInflAt => exact listReadBody_setRxCur b v _ _ _
  | txDescAddr | rxDescAddr => exact descAddrBody_setRxCur c b v _ _
  | srst => exact absurd rfl hi

end

/-- A run whose body commutes with a change of `RX_CUR` commutes with it too, on all its three paths. -/
theorem runBody_setRxCur {op : BitVec 4} {body : Config → Block → Except FatalError Block} {s t : State} {v : Word}
    (hBody : body s.cfg (s.blk.setRxCur v) = (body s.cfg s.blk).map (·.setRxCur v))
    (h : runBody op body s = .next t) :
    runBody op body (s.withBlk (s.blk.setRxCur v)) = .next (t.withBlk (t.blk.setRxCur v)) := by
  rcases runBody_cases op body s with ⟨hHalt, hx⟩ | ⟨b, hRun, hOk, hx⟩ | ⟨e, hRun, hErr, hx⟩ <;>
    obtain rfl := Host.Outcome.next.inj (h.symm.trans hx)
  · exact runBody_halted hHalt
  · rw [hOk] at hBody
    exact runBody_ok hRun hBody
  · rw [hErr] at hBody
    exact runBody_error hRun hBody

/-- Settles O38: SRST clears `RX_CUR` with the rest, and every other command's body commutes with its change. -/
theorem rxCurAffectsNoResult : Obligations.RxCurAffectsNoResult := by
  intro i s t v hExec
  by_cases hi : i = .srst
  · subst hi
    rw [if_pos rfl]
    exact hExec
  · rw [if_neg hi]
    rw [exec_eq_runBody hi] at hExec ⊢
    exact runBody_setRxCur (bodyOf_setRxCur s.cfg s.blk v hi) hExec

end Sys2Proof.Machine
end

section
/-! One step at the port, by what the next access is: turned away, a read, a plain write, or a write to `CMD`
(20_memory.md R62 to R65). -/

namespace Sys2Proof.Machine

/-- The port turns away exactly the accesses that are not aligned, 4 bytes wide and inside the window
(20_memory.md R65). -/
theorem windowOffset_eq_none_iff {c : Config} {addr n : Nat} :
    windowOffset c addr n = none ↔
      ¬ (n = 4 ∧ c.blockBase ≤ addr ∧ addr < c.blockBase + 256 ∧ (addr - c.blockBase) % 4 = 0) := by
  simp only [windowOffset, ite_eq_right_iff, reduceCtorEq, imp_false]
  omega

/-- A write to `CMD` always answers, and replaces the block record only (30_encoding.md R80). -/
theorem runWord_eq_next_withBlk (w : Word) (s : State) : ∃ b : Block, runWord w s = .next (s.withBlk b) := by
  unfold runWord
  split
  · exact exec_eq_next_withBlk _ s
  · next d _ =>
    rcases runBody_cases (opField w) (fun _ _ => .error ⟨.illegalCmd, illegalWhich d⟩) s with
      ⟨-, hIgnored⟩ | ⟨b, -, -, hDone⟩ | ⟨e, -, -, hFatal⟩
    · exact ⟨s.blk, hIgnored⟩
    · exact ⟨b, hDone⟩
    · exact ⟨s.blk.enterFatal (opField w) e, hFatal⟩

theorem serveEvent_of_windowOffset_none {a : Access} {s : State}
    (h : windowOffset s.cfg (accessAddr a) (accessWidth a) = none) :
    serveEvent (.access a) s = .fault (.busError a) := by
  simp only [serveEvent, serveAccess, h]

/-- An event is an access that is turned away with its bus error, or it answers a next state. -/
theorem serveEvent_fault_or_next (e : Event) (s : State) :
    (∃ a, e = .access a ∧ windowOffset s.cfg (accessAddr a) (accessWidth a) = none ∧
      serveEvent e s = .fault (.busError a)) ∨
    ∃ t, serveEvent e s = .next t := by
  rcases serveEvent_cases e s with
    ⟨-, hReset⟩ | hTurnedAway | ⟨a, off, -, -, hRead⟩ | ⟨a, off, v, -, -, -, hWrite⟩ | ⟨w, -, hCmd⟩
  · exact .inr ⟨_, hReset⟩
  · exact .inl hTurnedAway
  · exact .inr ⟨_, hRead⟩
  · exact .inr ⟨_, hWrite⟩
  · obtain ⟨b, hWord⟩ := runWord_eq_next_withBlk w (s.withReply .stored)
    exact .inr ⟨_, hCmd.trans hWord⟩

/-- A step is a fault with the bus error of the next access, which the port turns away, or it answers a next state. -/
theorem step_fault_or_next (s : State) :
    (∃ a rest, s.pending = .access a :: rest ∧ windowOffset s.cfg (accessAddr a) (accessWidth a) = none ∧
      step s = .fault (.busError a)) ∨
    ∃ t, step s = .next t := by
  cases hNext : s.pending with
  | nil => exact .inr ⟨s, step_idle hNext⟩
  | cons e rest =>
    rw [step_cons hNext]
    rcases serveEvent_fault_or_next e (s.withPending rest) with ⟨a, rfl, hNone, hFault⟩ | hNextState
    · exact .inl ⟨a, rest, rfl, hNone, hFault⟩
    · exact .inr hNextState

/-- Settles O10: a step faults exactly when the port gives the next access no window offset, which is R65's
condition. -/
theorem onlyBadAccessesFault : Obligations.OnlyBadAccessesFault := by
  refine fun s => ⟨fun f => ⟨fun hFault => ?_, ?_⟩, fun r hRefused => ?_⟩
  · rcases step_fault_or_next s with ⟨a, rest, hNext, hNone, hStep⟩ | ⟨t, hStep⟩
    · exact ⟨a, rest, hNext, Host.Outcome.fault.inj (hFault.symm.trans hStep), windowOffset_eq_none_iff.mp hNone⟩
    · exact absurd (hFault.symm.trans hStep) nofun
  · rintro ⟨a, rest, hNext, rfl, hBad⟩
    rw [step_cons hNext]
    exact serveEvent_of_windowOffset_none (windowOffset_eq_none_iff.mpr hBad)
  · rcases step_fault_or_next s with ⟨a, rest, -, -, hStep⟩ | ⟨t, hStep⟩
    · exact absurd (hRefused.symm.trans hStep) nofun
    · exact absurd (hRefused.symm.trans hStep) nofun

section
variable {s : State} {off : Nat} {v w : Word} {rest : List Event}

/-- The step of an allowed read (20_memory.md R62). -/
theorem step_read (hTop : off < 256) (hAligned : off % 4 = 0)
    (hNext : s.pending = .access (.read (s.cfg.blockBase + off) 4) :: rest) :
    step s = .next ((s.withPending rest).withReply (.data (readOffset s.cfg s.blk off))) := by
  rw [step_cons hNext]
  exact serveEvent_read (windowOffset_base_add hTop hAligned)

/-- The step of an allowed write at another offset than `CMD`'s (20_memory.md R63). -/
theorem step_write (hTop : off < 256) (hAligned : off % 4 = 0) (hNotCmd : off ≠ 0)
    (hNext : s.pending = .access (.write (s.cfg.blockBase + off) 4 v) :: rest) :
    step s = .next (((s.withPending rest).withReply .stored).withBlk (writeOffset s.cfg s.blk off v)) := by
  rw [step_cons hNext]
  exact serveEvent_write (windowOffset_base_add hTop hAligned) hNotCmd

/-- The step of a write to `CMD` (30_encoding.md R80). -/
theorem step_cmdWrite (hNext : s.pending = cmdWrite s.cfg w :: rest) :
    step s = runWord w ((s.withPending rest).withReply .stored) := by
  rw [step_cons hNext]
  exact serveEvent_cmd (s := s.withPending rest)

end

end Sys2Proof.Machine
end

section
/-! The register map by offset: what reads as 0, what ignores writes, and the window as bytes (10_state.md R23, R24;
20_memory.md R62 to R64). -/

namespace Sys2Proof.Machine

theorem mem_regTable_of_regAt {off : Nat} {r : Reg} {a : AccessCode} (h : regAt off = some (r, a)) :
    (off, r, a) ∈ regTable := by
  obtain ⟨above, below, hSplit, -⟩ := List.lookup_eq_some_iff.mp h
  simp [hSplit]

/-- The reserved ranges of the window (10_state.md R23, R24). -/
abbrev ReservedOffset (off : Nat) : Prop :=
  off = 0x38 ∨ off = 0x3C ∨ off = 0x44 ∨ (0x60 ≤ off ∧ off ≤ 0x7C) ∨ off = 0x8C ∨ off = 0xA4 ∨
    (0xB0 ≤ off ∧ off ≤ 0xFC)

theorem regAt_eq_none_of_reserved {off : Nat} (h : ReservedOffset off) : regAt off = none := by
  have hTable : ∀ row ∈ regTable, ¬ ReservedOffset row.1 := by decide
  cases hreg : regAt off with
  | none => rfl
  | some row => exact absurd h (hTable _ (mem_regTable_of_regAt hreg))

theorem readOffset_eq_zero_of_reserved {off : Nat} (h : ReservedOffset off) (c : Config) (b : Block) :
    readOffset c b off = 0#32 := by
  simp only [readOffset, regAt_eq_none_of_reserved h]

/-- An RW64 register reads as its storage with 64-bit pointers and as 0 with 32-bit ones (10_state.md R25). -/
theorem rw64Read_eq_ite (c : Config) (w : Word) : rw64Read c w = if c.ptrW = .w64 then w else 0#32 := by
  unfold rw64Read
  split
  · next hw => rw [if_pos hw]
  · next hw => rw [if_neg (by rw [hw]; decide)]

/-- Settles O11: the step of an allowed read, and the register map's own entry for each offset. -/
theorem hostReadReturnsTheRegister : Obligations.HostReadReturnsTheRegister := by
  refine ⟨fun s off rest hTop hAligned hNext => step_read hTop hAligned hNext, fun c b => ?_⟩
  exact ⟨rfl, rfl, rfl, rfl, rfl, rfl, rfl, rfl, rfl, rfl, rfl, rfl, rfl, rw64Read_eq_ite c b.txBaseHi,
    rfl, rfl, rw64Read_eq_ite c b.rxHeadHi, rfl, rw64Read_eq_ite c b.rxTailHi, rfl, rw64Read_eq_ite c b.rxBaseHi,
    rfl, rfl, rfl, rfl, rfl, rfl, rfl, rfl, rfl, rfl, fun off hReserved => readOffset_eq_zero_of_reserved hReserved c b⟩

/-- The offsets where a host write has no effect at pointer width `w`: read-only, reserved, and RW64 at 32 bits
(20_memory.md R63, 10_state.md R27). -/
abbrev IgnoresWrites (w : PtrWidth) (off : Nat) : Prop :=
  (0x04 ≤ off ∧ off ≤ 0x18) ∨ off = 0x38 ∨ off = 0x3C ∨ off = 0x44 ∨ 0x60 ≤ off ∨
    (w = .w32 ∧ (off = 0x34 ∨ off = 0x4C ∨ off = 0x54 ∨ off = 0x5C))

theorem not_ignoresWrites_of_regAt_rw {off : Nat} {r : Reg} (hreg : regAt off = some (r, .rw)) (w : PtrWidth) :
    ¬ IgnoresWrites w off := by
  have hTable : ∀ row ∈ regTable, row.2.2 = .rw → ¬ IgnoresWrites .w32 row.1 ∧ ¬ IgnoresWrites .w64 row.1 := by
    decide
  obtain ⟨h32, h64⟩ := hTable _ (mem_regTable_of_regAt hreg) rfl
  cases w with
  | w32 => exact h32
  | w64 => exact h64

theorem not_ignoresWrites_w64_of_regAt_rw64 {off : Nat} {r : Reg} (hreg : regAt off = some (r, .rw64)) :
    ¬ IgnoresWrites .w64 off := by
  have hTable : ∀ row ∈ regTable, row.2.2 = .rw64 → ¬ IgnoresWrites .w64 row.1 := by decide
  exact hTable _ (mem_regTable_of_regAt hreg) rfl

theorem writeOffset_of_ignoresWrites {c : Config} {off : Nat} (h : IgnoresWrites c.ptrW off) (b : Block) (v : Word) :
    writeOffset c b off v = b := by
  unfold writeOffset
  split
  · next hreg => exact absurd h (not_ignoresWrites_of_regAt_rw hreg c.ptrW)
  · next hreg =>
    split
    · next hw => exact absurd (hw ▸ h) (not_ignoresWrites_w64_of_regAt_rw64 hreg)
    · rfl
  all_goals rfl

/-- Settles O12: the stores by the access codes of the fourteen offsets, `CMD` by the step of a command write, and the
rest because such an offset ignores writes. -/
theorem hostWriteStoresRunsOrIsIgnored : Obligations.HostWriteStoresRunsOrIsIgnored := by
  intro s off v rest hTop hAligned hNext
  refine ⟨fun b hStores => ?_, ?_, fun hIgnores => ?_⟩
  · have hWrite : off ≠ 0 ∧ writeOffset s.cfg s.blk off v = b := by
      rcases hStores with ⟨rfl, rfl⟩ | ⟨rfl, rfl⟩ | ⟨rfl, rfl⟩ | ⟨rfl, rfl⟩ | ⟨rfl, rfl⟩ | ⟨rfl, rfl⟩ | ⟨rfl, rfl⟩ |
        ⟨rfl, rfl⟩ | ⟨rfl, rfl⟩ | ⟨rfl, rfl⟩ | ⟨rfl, hw, rfl⟩ | ⟨rfl, hw, rfl⟩ | ⟨rfl, hw, rfl⟩ | ⟨rfl, hw, rfl⟩
      iterate 10 exact ⟨by decide, (writeOffset_of_rw rfl s.blk v).trans rfl⟩
      iterate 4 exact ⟨by decide, (writeOffset_of_rw64_w64 rfl hw s.blk v).trans rfl⟩
    obtain ⟨hNotCmd, rfl⟩ := hWrite
    exact step_write hTop hAligned hNotCmd hNext
  · rintro rfl
    exact step_cmdWrite hNext
  · have hNotCmd : off ≠ 0 := by
      rintro rfl
      omega
    have hStep := step_write hTop hAligned hNotCmd hNext
    rwa [writeOffset_of_ignoresWrites hIgnores] at hStep

/-- Each lane of a register lies at its own byte address (20_memory.md R64). -/
theorem windowByte_base_add {off lane : Nat} (hTop : off < 256) (hAligned : off % 4 = 0) (hLane : lane < 4)
    (c : Config) (b : Block) :
    windowByte c b (c.blockBase + off + lane) = some ((readOffset c b off).extractLsb' (8 * lane) 8) := by
  have hFromBase : c.blockBase + off + lane - c.blockBase = off + lane := by omega
  have hRegister : (off + lane) / 4 * 4 = off := by omega
  have hByte : (off + lane) % 4 = lane := by omega
  have hInside : c.blockBase ≤ c.blockBase + off + lane ∧ off + lane < 256 := by omega
  rw [windowByte, hFromBase, if_pos hInside, hRegister, hByte]

/-- With 64-bit pointers the two registers of a pointer hold its value, low half first (10_state.md R25,
20_memory.md R64). -/
theorem readReg_pair_eq_ptrValue {c : Config} (hw : c.ptrW = .w64) (b : Block) (p : Ptr) :
    (readReg c b (ptrHiReg p) ++ readReg c b (ptrLoReg p)).toNat = ptrValue c b p := by
  cases p <;> simp only [ptrHiReg, ptrLoReg, readReg, rw64Read, ptrValue, ptrHi, ptrLo, hw]

/-- Settles O13: the lanes by address arithmetic, the pairs as the halves of each pointer. -/
theorem windowIsLittleEndian : Obligations.WindowIsLittleEndian := by
  refine ⟨fun c b off lane hTop hAligned hLane => windowByte_base_add hTop hAligned hLane c b, fun c b hw => ?_⟩
  have hPair := readReg_pair_eq_ptrValue hw b
  exact ⟨hPair .txBase, hPair .rxHead, hPair .rxTail, hPair .rxBase⟩

end Sys2Proof.Machine
end

section
/-! Repeated accesses (20_memory.md R67). -/

namespace Sys2Proof.Machine

theorem storeReg_storeReg (b : Block) (v : Word) (r : Reg) : storeReg (storeReg b v r) v r = storeReg b v r := by
  cases r <;> rfl

/-- A plain host write is idempotent: whether it stores depends on the offset and the width only. -/
theorem writeOffset_writeOffset (c : Config) (b : Block) (off : Nat) (v : Word) :
    writeOffset c (writeOffset c b off v) off v = writeOffset c b off v := by
  cases hreg : regAt off with
  | none => simp only [writeOffset, hreg]
  | some row =>
    obtain ⟨r, a⟩ := row
    cases a with
    | ro | wo => simp only [writeOffset, hreg]
    | rw => simp only [writeOffset_of_rw hreg, storeReg_storeReg]
    | rw64 =>
      cases hw : c.ptrW with
      | w64 => simp only [writeOffset_of_rw64_w64 hreg hw, storeReg_storeReg]
      | w32 => simp only [writeOffset_of_rw64_w32 hreg hw]

/-- Settles O44: the first read leaves the block that the second one reads, and the second write is absorbed. -/
theorem repeatedAccessesAgree : Obligations.RepeatedAccessesAgree := by
  constructor
  · intro s t off rest hTop hAligned hNext hStep
    obtain rfl := Host.Outcome.next.inj ((step_read hTop hAligned hNext).symm.trans hStep)
    rw [step_read (rest := rest) hTop hAligned rfl]
    rfl
  · intro s t off v rest hTop hAligned hNotCmd hNext hStep
    obtain rfl := Host.Outcome.next.inj ((step_write hTop hAligned hNotCmd hNext).symm.trans hStep)
    rw [step_write (rest := rest) hTop hAligned hNotCmd rfl]
    simp only [State.withBlk_blk, State.withBlk_cfg, State.withReply_cfg, State.withPending_cfg,
      writeOffset_writeOffset]
    rfl

end Sys2Proof.Machine
end

section
/-! The port never looks at the events still to come, so a run does not either (20_memory.md R70). -/

namespace Sys2Proof.Machine

/-- The same outcome, with the events `es` still to come if it is a next state. -/
def leavePending (es : List Event) : Result → Result
  | .next t => .next (t.withPending es)
  | .fault f => .fault f
  | .refused r => .refused r

section
variable (s : State) (es : List Event)

theorem runBody_withPending (op : BitVec 4) (body : Config → Block → Except FatalError Block) :
    runBody op body (s.withPending es) = leavePending es (runBody op body s) := by
  rcases runBody_cases op body s with ⟨hHalt, hx⟩ | ⟨b, hRun, hOk, hx⟩ | ⟨e, hRun, hErr, hx⟩ <;> rw [hx]
  · exact runBody_halted hHalt
  · exact runBody_ok hRun hOk
  · exact runBody_error hRun hErr

theorem exec_withPending (i : Instr) : exec i (s.withPending es) = leavePending es (exec i s) := by
  by_cases hi : i = .srst
  · subst hi
    rfl
  · rw [exec_eq_runBody hi, exec_eq_runBody hi]
    exact runBody_withPending s es _ _

theorem runWord_withPending (w : Word) : runWord w (s.withPending es) = leavePending es (runWord w s) := by
  unfold runWord
  split
  · exact exec_withPending s es _
  · exact runBody_withPending s es _ _

/-- Serving one event commutes with replacing the events after it. -/
theorem serveEvent_withPending (e : Event) :
    serveEvent e (s.withPending es) = leavePending es (serveEvent e s) := by
  rcases serveEvent_cases e s with
    ⟨rfl, hx⟩ | ⟨a, rfl, hNone, hx⟩ | ⟨a, off, rfl, hOff, hx⟩ | ⟨a, off, v, rfl, hOff, hNotCmd, hx⟩ | ⟨w, rfl, hx⟩ <;>
    rw [hx]
  · rfl
  · exact serveEvent_of_windowOffset_none hNone
  · exact serveEvent_read hOff
  · exact serveEvent_write hOff hNotCmd
  · exact (serveEvent_cmd (s := s.withPending es)).trans (runWord_withPending (s.withReply .stored) es w)

end

/-- A run over `es` has one outcome whatever comes after them, and leaves exactly what comes after. -/
theorem runSteps_append (s : State) (es later : List Event) :
    runSteps es.length (s.withPending (es ++ later)) =
      leavePending later (runSteps es.length (s.withPending es)) := by
  induction es generalizing s with
  | nil => rfl
  | cons e es ih =>
    have hServe (l : List Event) : step (s.withPending (e :: l)) = leavePending l (serveEvent e s) :=
      (step_cons rfl).trans (serveEvent_withPending s l e)
    cases hEvent : serveEvent e s with
    | next t =>
      rw [hEvent] at hServe
      exact (runSteps_succ_next (hServe _)).trans
        ((ih t).trans (congrArg (leavePending later) (runSteps_succ_next (hServe _)).symm))
    | fault f =>
      rw [hEvent] at hServe
      exact (runSteps_succ_fault (hServe _)).trans
        (congrArg (leavePending later) (runSteps_succ_fault (hServe _)).symm)
    | refused r =>
      rw [hEvent] at hServe
      exact (runSteps_succ_refused (hServe _)).trans
        (congrArg (leavePending later) (runSteps_succ_refused (hServe _)).symm)

/-- A run of `j + k` steps is a run of `j` and then one of `k`. -/
theorem runSteps_add {j : Nat} {s t : State} (k : Nat) (h : runSteps j s = .next t) :
    runSteps (j + k) s = runSteps k t := by
  induction j generalizing s with
  | zero =>
    obtain rfl := Host.Outcome.next.inj h
    rw [Nat.zero_add]
  | succ j ih =>
    rw [Nat.add_right_comm]
    cases hStep : step s with
    | next u =>
      rw [runSteps_succ_next hStep] at h ⊢
      exact ih h
    | fault f => exact absurd ((runSteps_succ_fault hStep).symm.trans h) nofun
    | refused r => exact absurd ((runSteps_succ_refused hStep).symm.trans h) nofun

/-- Settles O40: a run commutes with appending events; with none appended, it leaves none. -/
theorem earlierAccessesDoNotSeeLaterOnes : Obligations.EarlierAccessesDoNotSeeLaterOnes := by
  have hAppend (s : State) (later : List Event) :
      runSteps s.pending.length (s.withPending (s.pending ++ later)) =
        leavePending later (runSteps s.pending.length s) := runSteps_append s s.pending later
  refine ⟨?_, ?_, fun j k s t h => runSteps_add k h⟩
  · rintro s t _ later rfl hRun
    have hNone := hAppend s []
    rw [List.append_nil] at hNone
    have hLeft : t = t.withPending [] := by
      have hSame := hRun.symm.trans hNone
      rw [hRun] at hSame
      exact Host.Outcome.next.inj hSame
    refine ⟨by rw [hLeft, State.withPending_pending], ?_⟩
    exact (hAppend s later).trans (by rw [hRun]; rfl)
  · rintro s f _ later rfl hRun
    exact (hAppend s later).trans (by rw [hRun]; rfl)

end Sys2Proof.Machine
end

section
/-! The decoder by its answer: which words are commands, and which error each other word takes (30_encoding.md R81, R82,
R84, R85). -/

namespace Sys2Proof

theorem decode_encode (i : Instr) : decode (encode i) = .ok i := by
  cases i <;> rfl

/-- The commands are the words `encode` gives, each for one command (30_encoding.md R82). -/
theorem decode_eq_ok_iff {w : Word} {i : Instr} : decode w = .ok i ↔ w = encode i :=
  ⟨eq_encode_of_decode, fun h => h ▸ decode_encode i⟩

/-- The words of the command map as numbers (30_encoding.md R82). -/
theorem exists_encode_toNat_eq_iff (n : Nat) : (∃ i, (encode i).toNat = n) ↔ n ≤ 0x7 ∨ n = 0xF := by
  constructor
  · rintro ⟨i, rfl⟩
    cases i <;> decide
  · rintro (hLow | rfl)
    · interval_cases n
      exacts [⟨.nop, rfl⟩, ⟨.txEval, rfl⟩, ⟨.txFreeAt, rfl⟩, ⟨.txInflAt, rfl⟩, ⟨.rxEval, rfl⟩, ⟨.txDescAddr, rfl⟩,
        ⟨.rxDescAddr, rfl⟩, ⟨.clrWarn, rfl⟩]
    · exact ⟨.srst, rfl⟩

theorem exists_decode_eq_ok_iff (w : Word) : (∃ i, decode w = .ok i) ↔ w.toNat ≤ 0x7 ∨ w.toNat = 0xF := by
  rw [← exists_encode_toNat_eq_iff]
  exact exists_congr fun i => decode_eq_ok_iff.trans (BitVec.toNat_inj.symm.trans eq_comm)

/-- The reserved bits are tested before `OP`, so they alone decide this error (30_encoding.md R84, R85). -/
theorem decode_eq_reservedBits_iff (w : Word) : decode w = .error .reservedBits ↔ rsvdField w ≠ 0#28 := by
  constructor
  · intro hDecode hClear
    unfold decode at hDecode
    rw [if_neg (not_not.mpr hClear)] at hDecode
    split at hDecode <;> cases hDecode
  · exact fun hReserved => if_pos hReserved

/-- A word with clear reserved bits that is no command has a reserved `OP` (30_encoding.md R84). -/
theorem decode_eq_reservedOp_iff (w : Word) : decode w = .error .reservedOp ↔ 0x8 ≤ w.toNat ∧ w.toNat ≤ 0xE := by
  have hCommand := exists_decode_eq_ok_iff w
  have hBits := decode_eq_reservedBits_iff w
  rw [ne_eq, rsvdField_eq_zero_iff] at hBits
  cases hDecode : decode w with
  | ok i =>
    have hWord := hCommand.mp ⟨i, hDecode⟩
    exact iff_of_false nofun (by omega)
  | error d =>
    have hNoCommand := mt hCommand.mpr (by rw [hDecode]; exact nofun)
    cases d with
    | reservedBits =>
      have hWord := hBits.mp hDecode
      exact iff_of_false nofun (by omega)
    | reservedOp =>
      have hWord := mt hBits.mpr (by rw [hDecode]; exact nofun)
      exact iff_of_true rfl (by omega)

theorem tableWord_32 (w : Nat) : tableWord 32 w = BitVec.ofNat 32 w := by
  apply BitVec.eq_of_toNat_eq
  simp only [tableWord, BitVec.toNat_ofNat, Nat.mod_mod]

/-- A table row of 32 bits is decoded as the word of its bits (30_encoding.md R81). -/
theorem decodeTableWord_32_eq_some_iff {w : Nat} {i : Instr} :
    decodeTableWord 32 w = some i ↔ decode (BitVec.ofNat 32 w) = .ok i := by
  rw [decodeTableWord, if_neg (lt_irrefl 32), tableWord_32]
  cases decode (BitVec.ofNat 32 w) with
  | ok j => simp only [Option.some.injEq, Except.ok.injEq]
  | error d => exact iff_of_false nofun nofun

/-- Settles O2: the table's numbering is the decoder's own at 32 bits, and the decoder's commands are exactly the words
`encode` gives. -/
theorem decodeEncodeAgree : Obligations.DecodeEncodeAgree := by
  refine ⟨fun i _ => ⟨decode_encode i, ?_⟩, fun w i => eq_encode_of_decode, fun w i hw hTable => ?_⟩
  · rw [decodeTableWord_32_eq_some_iff, BitVec.ofNat_toNat, BitVec.setWidth_eq]
    exact decode_encode i
  · rw [← eq_encode_of_decode (decodeTableWord_32_eq_some_iff.mp hTable), BitVec.toNat_ofNat, Nat.mod_eq_of_lt hw]

/-- Settles O1: the nine words are those of `encode`, and the five beside them fall under the two error
characterisations. -/
theorem commandWordsDecode : Obligations.CommandWordsDecode :=
  ⟨decode_encode .nop, decode_encode .txEval, decode_encode .txFreeAt, decode_encode .txInflAt, decode_encode .rxEval,
    decode_encode .txDescAddr, decode_encode .rxDescAddr, decode_encode .clrWarn, decode_encode .srst,
    (decode_eq_reservedOp_iff _).mpr (by decide), (decode_eq_reservedOp_iff _).mpr (by decide),
    (decode_eq_reservedBits_iff _).mpr (by decide), (decode_eq_reservedBits_iff _).mpr (by decide),
    (decode_eq_reservedBits_iff _).mpr (by decide)⟩

end Sys2Proof
end

section
/-! What a written word does, by the decoder's answer (30_encoding.md R80, R84; 60_exceptions.md R173, R174). -/

namespace Sys2Proof.Machine

section
variable {s : State} {w : Word} {rest : List Event} {i : Instr} {d : DecodeError}

theorem runWord_of_decode_ok (h : decode w = .ok i) (s : State) : runWord w s = exec i s := by
  simp only [runWord, h]

theorem runWord_of_decode_error (h : decode w = .error d) (s : State) : runWord w s = runIllegal w d s := by
  simp only [runWord, h]

theorem runIllegal_halted (h : s.blk.halt = true) (w : Word) (d : DecodeError) : runIllegal w d s = .next s :=
  runBody_halted h

theorem runIllegal_running (h : s.blk.halt = false) (w : Word) (d : DecodeError) :
    runIllegal w d s = .next (s.withBlk (s.blk.enterFatal (opField w) ⟨.illegalCmd, illegalWhich d⟩)) :=
  runBody_error h rfl

/-- The step of an illegal word while `HALT = 0`: ILLEGAL_CMD, with the word's own OP field (60_exceptions.md R173). -/
theorem step_illegal_running (hNext : s.pending = cmdWrite s.cfg w :: rest) (hDecode : decode w = .error d)
    (hRun : s.blk.halt = false) :
    step s = .next (((s.withPending rest).withReply .stored).withBlk
      (s.blk.enterFatal (opField w) ⟨.illegalCmd, illegalWhich d⟩)) := by
  rw [step_cmdWrite hNext, runWord_of_decode_error hDecode]
  exact runIllegal_running (s := (s.withPending rest).withReply .stored) hRun w d

/-- The step of an illegal word while `HALT = 1` (60_exceptions.md R174). -/
theorem step_illegal_halted (hNext : s.pending = cmdWrite s.cfg w :: rest) (hDecode : decode w = .error d)
    (hHalt : s.blk.halt = true) : step s = .next ((s.withPending rest).withReply .stored) := by
  rw [step_cmdWrite hNext, runWord_of_decode_error hDecode]
  exact runIllegal_halted (s := (s.withPending rest).withReply .stored) hHalt w d

end

/-- Settles O8: the step of a write to `CMD` is the run of its word. -/
theorem stepRunsTheDecodedCommand : Obligations.StepRunsTheDecodedCommand := by
  intro s w i rest hNext hDecode
  rw [step_cmdWrite hNext, runWord_of_decode_ok hDecode]
  rfl

/-- Settles O3: the three sets are the decoder's three answers, and the step of a word with either error is that of an
illegal word, `HALT = 0` or not. -/
theorem commandWordsSplitInThreeSets : Obligations.CommandWordsSplitInThreeSets := by
  have hBits (w : Word) (h : w.extractLsb' 4 28 ≠ 0#28) : decode w = .error .reservedBits :=
    (decode_eq_reservedBits_iff w).mpr h
  have hOp (w : Word) (hLow : 0x8 ≤ w.toNat) (hHigh : w.toNat ≤ 0xE) : decode w = .error .reservedOp :=
    (decode_eq_reservedOp_iff w).mpr ⟨hLow, hHigh⟩
  refine ⟨exists_decode_eq_ok_iff, hBits, hOp, fun s w rest hNext hRun => ⟨fun h => ?_, fun hLow hHigh => ?_⟩,
    fun s w rest hNext hHalt hIllegal => ?_⟩
  · exact (step_illegal_running hNext (hBits w h) hRun).trans rfl
  · exact (step_illegal_running hNext (hOp w hLow hHigh) hRun).trans rfl
  · rcases hIllegal with h | ⟨hLow, hHigh⟩
    · exact step_illegal_halted hNext (hBits w h) hHalt
    · exact step_illegal_halted hNext (hOp w hLow hHigh) hHalt

end Sys2Proof.Machine
end

section
/-! Writing a pointer by its two halves (30_encoding.md R87, 10_state.md R25). -/

namespace Sys2Proof.Machine

theorem regOffset_in_window (r : Reg) : regOffset r < 256 ∧ regOffset r % 4 = 0 := by
  cases r <;> decide

theorem regOffset_ne_zero {r : Reg} (h : r ≠ .cmd) : regOffset r ≠ 0 := by
  cases r with
  | cmd => exact absurd rfl h
  | _ => decide

/-- The step of `WR reg, value` for a register other than `CMD` (30_encoding.md R86). -/
theorem step_wrEvent {s : State} {r : Reg} {v : Word} {rest : List Event} (hNotCmd : r ≠ .cmd)
    (hNext : s.pending = wrEvent s.cfg r v :: rest) :
    step s = .next (((s.withPending rest).withReply .stored).withBlk (writeOffset s.cfg s.blk (regOffset r) v)) := by
  obtain ⟨hTop, hAligned⟩ := regOffset_in_window r
  exact step_write hTop hAligned (regOffset_ne_zero hNotCmd) hNext

theorem regAt_ptrLoReg (p : Ptr) : regAt (regOffset (ptrLoReg p)) = some (ptrLoReg p, .rw) := by
  cases p <;> rfl

theorem regAt_ptrHiReg (p : Ptr) : regAt (regOffset (ptrHiReg p)) = some (ptrHiReg p, .rw64) := by
  cases p <;> rfl

theorem ptrLoReg_ne_cmd (p : Ptr) : ptrLoReg p ≠ .cmd := by
  cases p <;> decide

theorem ptrHiReg_ne_cmd (p : Ptr) : ptrHiReg p ≠ .cmd := by
  cases p <;> decide

theorem ptrLoReg_ne_ptrHiReg (p q : Ptr) : ptrLoReg p ≠ ptrHiReg q :=
  ne_ptrHiReg_of_regAt_rw (regAt_ptrLoReg p) q

theorem ptrLoReg_injective : Function.Injective ptrLoReg := by
  intro p q h
  cases p <;> cases q <;> cases h <;> rfl

theorem ptrHiReg_injective : Function.Injective ptrHiReg := by
  intro p q h
  cases p <;> cases q <;> cases h <;> rfl

section
variable (b : Block) (v : Word)

theorem ptrLo_storeReg_self (p : Ptr) : ptrLo (storeReg b v (ptrLoReg p)) p = v := by
  cases p <;> rfl

theorem ptrHi_storeReg_self (p : Ptr) : ptrHi (storeReg b v (ptrHiReg p)) p = v := by
  cases p <;> rfl

theorem ptrLo_storeReg_of_ne {r : Reg} {p : Ptr} (h : r ≠ ptrLoReg p) : ptrLo (storeReg b v r) p = ptrLo b p := by
  cases r with
  | txBaseLo | rxHeadLo | rxTailLo | rxBaseLo => cases p <;> simp_all [storeReg, ptrLo, ptrLoReg]
  | _ => cases p <;> rfl

end

/-- The block `WR64 p, v` leaves: the low half written, then the high half (30_encoding.md R87). `runSteps_wr64` ties it
to the machine. -/
def writePtr (c : Config) (b : Block) (p : Ptr) (v : BitVec 64) : Block :=
  writeOffset c (writeOffset c b (regOffset (ptrLoReg p)) (v.extractLsb' 0 32)) (regOffset (ptrHiReg p))
    (v.extractLsb' 32 32)

section
variable {c : Config} (b : Block) (p : Ptr) (v : BitVec 64)

theorem writePtr_of_w32 (hw : c.ptrW = .w32) :
    writePtr c b p v = storeReg b (v.extractLsb' 0 32) (ptrLoReg p) := by
  rw [writePtr, writeOffset_of_rw64_w32 (regAt_ptrHiReg p) hw, writeOffset_of_rw (regAt_ptrLoReg p)]

theorem writePtr_of_w64 (hw : c.ptrW = .w64) :
    writePtr c b p v =
      storeReg (storeReg b (v.extractLsb' 0 32) (ptrLoReg p)) (v.extractLsb' 32 32) (ptrHiReg p) := by
  rw [writePtr, writeOffset_of_rw64_w64 (regAt_ptrHiReg p) hw, writeOffset_of_rw (regAt_ptrLoReg p)]

/-- A pointer written by halves holds the value modulo `2^PTR_W` (10_state.md R25). -/
theorem ptrValue_writePtr_self : ptrValue c (writePtr c b p v) p = v.toNat % 2 ^ c.ptrW.bits := by
  have hv := v.isLt
  cases hw : c.ptrW with
  | w32 =>
    rw [ptrValue_of_w32 hw, writePtr_of_w32 b p v hw, ptrLo_storeReg_self]
    simp [PtrWidth.bits]
  | w64 =>
    rw [ptrValue_of_w64 hw, writePtr_of_w64 b p v hw, ptrHi_storeReg_self,
      ptrLo_storeReg_of_ne _ _ (ptrLoReg_ne_ptrHiReg p p).symm, ptrLo_storeReg_self]
    simp only [BitVec.extractLsb'_toNat, Nat.shiftRight_eq_div_pow, PtrWidth.bits]
    omega

/-- Writing one pointer leaves the others. -/
theorem ptrValue_writePtr_of_ne {p q : Ptr} (h : p ≠ q) : ptrValue c (writePtr c b p v) q = ptrValue c b q := by
  have hLo : ptrLoReg p ≠ ptrLoReg q := ptrLoReg_injective.ne h
  cases hw : c.ptrW with
  | w32 => rw [ptrValue_of_w32 hw, ptrValue_of_w32 hw, writePtr_of_w32 b p v hw, ptrLo_storeReg_of_ne _ _ hLo]
  | w64 =>
    rw [ptrValue_of_w64 hw, ptrValue_of_w64 hw, writePtr_of_w64 b p v hw,
      ptrHi_storeReg_of_ne (ptrHiReg_injective.ne h), ptrHi_storeReg_of_ne (ptrLoReg_ne_ptrHiReg p q),
      ptrLo_storeReg_of_ne _ _ (ptrLoReg_ne_ptrHiReg q p).symm, ptrLo_storeReg_of_ne _ _ hLo]

end

/-- The two steps of `WR64 p, v` (30_encoding.md R87). -/
theorem runSteps_wr64 {s : State} {p : Ptr} {v : BitVec 64} {rest : List Event}
    (hNext : s.pending = wr64Events s.cfg p v ++ rest) :
    runSteps 2 s = .next (((s.withPending rest).withReply .stored).withBlk (writePtr s.cfg s.blk p v)) := by
  rw [runSteps_succ_next (step_wrEvent (ptrLoReg_ne_cmd p) hNext),
    runSteps_succ_next (step_wrEvent (rest := rest) (ptrHiReg_ne_cmd p) rfl)]
  rfl

/-- The whole run of `RXLOAD h, t, b`: three `WR64`s, one after the other (30_encoding.md R87). -/
theorem runAll_rxLoad {s : State} {h t b : BitVec 64} (hNext : s.pending = hostOpEvents s.cfg (.rxLoad h t b)) :
    runAll s = .next (((s.withPending []).withReply .stored).withBlk
      (writePtr s.cfg (writePtr s.cfg (writePtr s.cfg s.blk .rxHead h) .rxTail t) .rxBase b)) := by
  have hLength : s.pending.length = 2 + (2 + 2) := by rw [hNext]; rfl
  rw [hostOpEvents, List.append_assoc] at hNext
  rw [runAll, hLength, runSteps_add _ (runSteps_wr64 hNext),
    runSteps_add _ (runSteps_wr64 (p := .rxTail) (v := t) (rest := wr64Events s.cfg .rxBase b) rfl),
    runSteps_wr64 (p := .rxBase) (v := b) (rest := []) rfl]
  rfl

/-- Settles O42: of the three `WR64`s of the run, each loads its pointer and leaves the two others. -/
theorem rxLoadLoadsThePointers : Obligations.RxLoadLoadsThePointers := by
  intro s h t b hNext
  refine ⟨_, runAll_rxLoad hNext, rfl, ?_, ?_, ?_⟩
  · rw [State.withBlk_cfg, State.withBlk_blk]
    exact (ptrValue_writePtr_of_ne _ b (by decide)).trans
      ((ptrValue_writePtr_of_ne _ t (by decide)).trans (ptrValue_writePtr_self _ .rxHead h))
  · rw [State.withBlk_cfg, State.withBlk_blk]
    exact (ptrValue_writePtr_of_ne _ b (by decide)).trans (ptrValue_writePtr_self _ .rxTail t)
  · exact ptrValue_writePtr_self _ .rxBase b

end Sys2Proof.Machine
end

section
/-! The TX lists as one trip round the ring (40_tx_tracker.md R101, R102, R104, R107): the two walks of a MIXED
snapshot, one after the other, are the full ring, and the full ring is every index once. -/

namespace Sys2Proof.Machine

/-- The full ring from `s` is the ring from 0 turned by `s` (R102). -/
theorem fullRing_eq_rotate (s n : Nat) : fullRing s n = (List.range n).rotate s :=
  List.ext_getElem (by simp) fun j _ _ => by simp [fullRing, List.getElem_rotate, Nat.add_comm]

theorem fullRing_perm_range (s n : Nat) : (fullRing s n).Perm (List.range n) :=
  fullRing_eq_rotate s n ▸ List.rotate_perm _ s

theorem fullRing_eq_append {s n : Nat} (hs : s ≤ n) :
    fullRing s n = List.range' s (n - s) ++ List.range' 0 s := by
  rw [fullRing_eq_rotate, List.rotate_eq_drop_append_take (by simpa using hs), List.take_range,
    Nat.min_eq_left hs]
  simp [List.range_eq_range']

@[simp] theorem walk_self (s n : Nat) : walk s s n = [] := by simp [walk]

/-- Walking from `c` to `d` and on from `d` to `c` visits the full ring from `c`. -/
theorem walk_append_walk {c d n : Nat} (hc : c ≤ n) (hd : d ≤ n) (hne : c ≠ d) :
    walk c d n ++ walk d c n = fullRing c n := by
  have join {a b e : Nat} (hab : a ≤ b) (hbe : b ≤ e) :
      List.range' a (b - a) ++ List.range' b (e - b) = List.range' a (e - a) := by
    have h := List.range'_append_1 (s := a) (m := b - a) (n := e - b)
    rwa [Nat.add_sub_cancel' hab, show b - a + (e - b) = e - a by omega] at h
  rw [fullRing_eq_append hc]
  rcases Nat.lt_or_gt_of_ne hne with hlt | hlt
  · rw [walk, if_neg hlt.not_gt, walk, if_pos hlt, ← List.append_assoc, join hlt.le hd]
  · rw [walk, if_pos hlt, walk, if_neg hlt.not_gt, List.append_assoc]
    exact congrArg _ (join (Nat.zero_le d) hlt.le)

/-- The free list and the in-flight list together are every index of the ring once (R107), but before any TX_EVAL and
in the MIXED case with equal indices. -/
theorem freeList_append_inflList_perm {c d n : Nat} {k : TxCase} (hc : c ≤ n) (hd : d ≤ n) (hk : k ≠ .none)
    (hne : k = .mixed → c ≠ d) : (freeList c d k n ++ inflList c d k n).Perm (List.range n) := by
  cases k with
  | none => exact absurd rfl hk
  | allFree => simpa [freeList, inflList] using fullRing_perm_range c n
  | allInflight => simpa [freeList, inflList] using fullRing_perm_range d n
  | mixed => exact walk_append_walk hc hd (hne rfl) ▸ fullRing_perm_range c n

/-- The two ways round between different indices make one whole turn. -/
theorem subMod_add_subMod_swap {c d n : Nat} (hc : c < n) (hd : d < n) (hne : c ≠ d) :
    subMod d c n + subMod c d n = n := by
  rw [← walk_length hc hd, ← walk_length hd hc, ← List.length_append, walk_append_walk hc.le hd.le hne,
    fullRing_length]

end Sys2Proof.Machine
end

section
/-! The case split and the consistency condition (40_tx_tracker.md R103, R105). -/

namespace Sys2Proof.Machine

/-- R103's three cases, each with what it says of the given counts. -/
theorem txCaseOf_cases (f q n : Nat) :
    (txCaseOf f q n = .allFree ∧ f = n ∧ q = 0) ∨ (txCaseOf f q n = .allInflight ∧ f = 0 ∧ q = n) ∨
    (txCaseOf f q n = .mixed ∧ ¬ (f = n ∧ q = 0) ∧ ¬ (f = 0 ∧ q = n)) := by
  unfold txCaseOf
  split
  · next hFree => exact .inl ⟨rfl, hFree⟩
  · next hFree =>
    split
    · next hInfl => exact .inr (.inl ⟨rfl, hInfl⟩)
    · next hInfl => exact .inr (.inr ⟨rfl, hFree, hInfl⟩)

theorem txCaseOf_ne_none (f q n : Nat) : txCaseOf f q n ≠ .none := by
  rcases txCaseOf_cases f q n with ⟨h, -⟩ | ⟨h, -⟩ | ⟨h, -⟩ <;> simp [h]

/-- A natural is the modular difference exactly when it is the Euclidean residue (00_scope.md R12). -/
theorem eq_subMod_iff {f a b n : Nat} (hn : 0 < n) :
    f = subMod a b n ↔ (f : Int) = ((a : Int) - (b : Int)) % (n : Int) := by
  have hNonneg : 0 ≤ ((a : Int) - (b : Int)) % (n : Int) := Int.emod_nonneg _ (by omega)
  unfold subMod
  omega

theorem txConsistent_eq_true_iff {c d f q n : Nat} : txConsistent c d f q n = true ↔
    f + q = n ∧ ((c = d ∧ (f = 0 ∨ f = n)) ∨ (c ≠ d ∧ f = subMod d c n)) :=
  decide_eq_true_iff

/-- Of a consistent snapshot the two lists are as long as the counts it was given (R105, R108). -/
theorem lens_of_txConsistent {c d f q n : Nat} (hc : c < n) (hd : d < n) (h : txConsistent c d f q n = true) :
    freeLen c d (txCaseOf f q n) n = f ∧ inflLen c d (txCaseOf f q n) n = q := by
  obtain ⟨hSum, hPlace⟩ := txConsistent_eq_true_iff.mp h
  rcases txCaseOf_cases f q n with ⟨hk, hf, hq⟩ | ⟨hk, hf, hq⟩ | ⟨hk, hNotFree, hNotInfl⟩ <;> rw [hk]
  · exact ⟨hf.symm, hq.symm⟩
  · exact ⟨hf.symm, hq.symm⟩
  · rcases hPlace with ⟨-, hFull⟩ | ⟨hne, hf⟩
    · omega
    · have hTurn := subMod_add_subMod_swap hc hd hne
      simp only [freeLen, inflLen]
      omega

end Sys2Proof.Machine
end

section
/-! TX_EVAL (40_tx_tracker.md R106): its three outcomes, and what follows once it has completed. -/

namespace Sys2Proof.Machine

section
variable {i : Instr} {s : State}

theorem exec_of_body_ok {b : Block} (hi : i ≠ .srst) (hRun : s.blk.halt = false)
    (hBody : bodyOf i s.cfg s.blk = .ok b) : exec i s = .next (s.withBlk b) :=
  (exec_eq_runBody hi s).trans (runBody_ok hRun hBody)

theorem exec_of_body_error {e : FatalError} (hi : i ≠ .srst) (hRun : s.blk.halt = false)
    (hBody : bodyOf i s.cfg s.blk = .error e) :
    exec i s = .next (s.withBlk (s.blk.enterFatal (opField (encode i)) e)) :=
  (exec_eq_runBody hi s).trans (runBody_error hRun hBody)

end

section
variable {c : Config} {b : Block}

theorem txEvalBody_of_cur_ge (hCur : c.nTx ≤ b.txCur.toNat) : txEvalBody c b = .error ⟨.txIdxRange, false⟩ :=
  if_pos hCur

theorem txEvalBody_of_dirty_ge (hCur : b.txCur.toNat < c.nTx) (hDirty : c.nTx ≤ b.txDirty.toNat) :
    txEvalBody c b = .error ⟨.txIdxRange, true⟩ :=
  (if_neg hCur.not_ge).trans (if_pos hDirty)

theorem txEvalBody_of_lt (hCur : b.txCur.toNat < c.nTx) (hDirty : b.txDirty.toNat < c.nTx) :
    txEvalBody c b = .ok (txEvalStore c.nTx b) :=
  (if_neg hCur.not_ge).trans (if_neg hDirty.not_ge)

end

/-- `TX_RES` with R105's condition written by Euclidean residues, as the spec writes it. -/
theorem txEvalRes_eq {c d f q n : Nat} (hn : 0 < n) : txEvalRes c d f q n =
    txResWord (txCaseOf f q n) (decide (txCaseOf f q n = .mixed ∧ d < c)) (decide (txCaseOf f q n = .mixed ∧ c < d))
      (decide (¬ (f + q = n ∧
        ((c = d ∧ (f = 0 ∨ f = n)) ∨ (c ≠ d ∧ (f : Int) = ((d : Int) - (c : Int)) % (n : Int)))))) := by
  simp only [txEvalRes, txConsistent, ← decide_not, eq_subMod_iff hn]

/-- Settles O20: the three outcomes of the body, with the closed forms read as the lengths of the lists. -/
theorem txEvalFollowsItsRule : Obligations.TxEvalFollowsItsRule := by
  refine ⟨rfl, ?_⟩
  rintro s n c d f q k hwf hRun rfl rfl rfl rfl rfl hk
  obtain rfl : k = txCaseOf s.blk.txFree.toNat s.blk.txQueued.toNat s.cfg.nTx := hk
  obtain ⟨hn, -⟩ := capacities_of_wf hwf
  refine ⟨fun hCur hDirty => ?_, fun hCur => ?_, fun hCur hDirty => ?_⟩
  · rw [exec_of_body_ok (i := .txEval) nofun hRun (txEvalBody_of_lt hCur hDirty), freeList_length _ hCur hDirty,
      inflList_length _ hCur hDirty, ← txEvalRes_eq hn]
    rfl
  · exact exec_of_body_error (i := .txEval) nofun hRun (txEvalBody_of_cur_ge hCur)
  · exact exec_of_body_error (i := .txEval) nofun hRun (txEvalBody_of_dirty_ge hCur hDirty)

/-- TX_EVAL completes in one way only. -/
theorem Completes.of_txEval {c : Config} {b b' : Block} (h : Completes c b .txEval b') :
    b.txCur.toNat < c.nTx ∧ b.txDirty.toNat < c.nTx ∧ b' = txEvalStore c.nTx b := by
  cases h with
  | txEval hCur hDirty => exact ⟨hCur, hDirty, rfl⟩
  | result hWrites => rcases hWrites with h | h | h | h <;> cases h

/-- A TX_EVAL that leaves the block running has completed: both indices are in range, and its writes are the rule's. -/
theorem exec_txEval_completed {s t : State} (hRun : s.blk.halt = false) (h : exec .txEval s = .next t)
    (hDone : t.blk.halt = false) :
    s.blk.txCur.toNat < s.cfg.nTx ∧ s.blk.txDirty.toNat < s.cfg.nTx ∧ t.blk = txEvalStore s.cfg.nTx s.blk := by
  obtain ⟨-, ⟨hSrst, -⟩ | ⟨-, hHalt, -⟩ | ⟨-, hCompletes⟩ | ⟨e, -, -, hFatal⟩⟩ := exec_next_cases h
  · cases hSrst
  · exact absurd (hHalt.symm.trans hRun) nofun
  · exact hCompletes.of_txEval
  · rw [hFatal] at hDone
    exact absurd hDone nofun

section
variable (n : Nat) (b : Block)

@[simp] theorem txEvalStore_sCur : (txEvalStore n b).sCur = b.txCur := rfl

@[simp] theorem txEvalStore_sDirty : (txEvalStore n b).sDirty = b.txDirty := rfl

@[simp] theorem txResCase_txEvalStore :
    txResCase (txEvalStore n b).txRes = txCaseOf b.txFree.toNat b.txQueued.toNat n :=
  txResCase_txResWord _ _ _ _

/-- `TX_RES.INCONS` is the negated consistency condition (10_state.md R36, 40_tx_tracker.md R106). -/
theorem txEvalStore_incons : (txEvalStore n b).txRes.getLsbD 4 =
    !txConsistent b.txCur.toNat b.txDirty.toNat b.txFree.toNat b.txQueued.toNat n := by
  obtain ⟨-, -, hIncons⟩ := txResWord_flags (txCaseOf b.txFree.toNat b.txQueued.toNat n) _ _ _
  exact hIncons

end

/-- Settles O27: outside the exception the two lists together are the ring in another order, so they repeat nothing,
share nothing, and miss nothing; in the exception both are empty walks. -/
theorem txListsPartitionTheRing : Obligations.TxListsPartitionTheRing := by
  rintro s t n k fl il - hRun hExec hDone rfl hk rfl rfl
  obtain ⟨hCur, hDirty, hBlk⟩ := exec_txEval_completed hRun hExec hDone
  rw [hBlk, txResCase_txEvalStore] at hk
  rw [hBlk, txEvalStore_sCur, txEvalStore_sDirty]
  by_cases hEmpty : k = .mixed ∧ s.blk.txCur = s.blk.txDirty
  · obtain ⟨rfl, hEq⟩ := hEmpty
    simp [freeList, inflList, hEq]
  · have hPerm := freeList_append_inflList_perm hCur.le hDirty.le (hk ▸ txCaseOf_ne_none _ _ _)
      fun hMixed hEq => hEmpty ⟨hMixed, BitVec.eq_of_toNat_eq hEq⟩
    have hNodup := hPerm.nodup_iff.mpr List.nodup_range
    refine ⟨hNodup.of_append_left, hNodup.of_append_right, List.disjoint_of_nodup_append hNodup,
      fun h => absurd h hEmpty, fun _ => ⟨?_, fun x => ?_⟩⟩
    · rw [← List.length_append, hPerm.length_eq, List.length_range]
    · rw [← List.mem_append, hPerm.mem_iff, List.mem_range]

/-- Settles O28: INCONS = 0 is the consistency condition, under which the reported lengths are the given counts. -/
theorem consistentSnapshotRoundTrip : Obligations.ConsistentSnapshotRoundTrip := by
  intro s t _ hRun hExec hDone hIncons
  obtain ⟨hCur, hDirty, hBlk⟩ := exec_txEval_completed hRun hExec hDone
  rw [hBlk, txEvalStore_incons, Bool.not_eq_false'] at hIncons
  obtain ⟨hSum, -⟩ := txConsistent_eq_true_iff.mp hIncons
  obtain ⟨hFree, hInfl⟩ := lens_of_txConsistent hCur hDirty hIncons
  rw [hBlk, txResCase_txEvalStore, txEvalStore_sCur, txEvalStore_sDirty, freeList_length _ hCur hDirty, hFree]
  refine ⟨?_, ?_, hSum, by omega⟩
  · simp [txEvalStore, Block.storeTx, hFree]
  · simp [txEvalStore, Block.storeTx, hInfl]

end Sys2Proof.Machine
end

section
/-! The list reads (40_tx_tracker.md R112, R116): one argument for both, over the list that is read. -/

namespace Sys2Proof.Machine

section
variable {start len n : Nat} {b : Block}

theorem listReadBody_of_not_valid (hValid : b.txValid = false) :
    listReadBody start len n b = .error ⟨.notEvaluated, false⟩ :=
  if_pos hValid

theorem listReadBody_of_le (hValid : b.txValid = true) (hArg : len ≤ b.arg.toNat) :
    listReadBody start len n b = .error ⟨.listRange, false⟩ := by
  simp [listReadBody, hValid, hArg]

theorem listReadBody_of_lt (hValid : b.txValid = true) (hArg : b.arg.toNat < len) :
    listReadBody start len n b = .ok (b.storeResult (BitVec.ofNat 32 (ringEntry start b.arg.toNat n)) 0#32) := by
  simp [listReadBody, hValid, hArg]

end

/-- A command whose body is a read of the list `l`, which runs round the ring from `start`: its two errors in order,
else the entry. -/
theorem exec_listRead {i : Instr} {s : State} {start : Nat} {l : List Nat} (hi : i ≠ .srst)
    (hRun : s.blk.halt = false) (hBody : bodyOf i s.cfg s.blk = listReadBody start l.length s.cfg.nTx s.blk)
    (hEntry : ∀ j < l.length, l[j]? = some (ringEntry start j s.cfg.nTx)) :
    (s.blk.txValid = false →
      exec i s = .next (s.withBlk (s.blk.enterFatal (opField (encode i)) ⟨.notEvaluated, false⟩))) ∧
    (s.blk.txValid = true → l.length ≤ s.blk.arg.toNat →
      exec i s = .next (s.withBlk (s.blk.enterFatal (opField (encode i)) ⟨.listRange, false⟩))) ∧
    (s.blk.txValid = true → ∀ h : s.blk.arg.toNat < l.length,
      l[s.blk.arg.toNat] = (start + s.blk.arg.toNat) % s.cfg.nTx ∧
      exec i s = .next (s.withBlk (s.blk.storeResult (BitVec.ofNat 32 l[s.blk.arg.toNat]) 0#32))) := by
  refine ⟨fun hValid => ?_, fun hValid hArg => ?_, fun hValid hArg => ?_⟩
  · exact exec_of_body_error hi hRun (hBody.trans (listReadBody_of_not_valid hValid))
  · exact exec_of_body_error hi hRun (hBody.trans (listReadBody_of_le hValid hArg))
  · have hGet : l[s.blk.arg.toNat] = ringEntry start s.blk.arg.toNat s.cfg.nTx :=
      (List.getElem_eq_iff hArg).mpr (hEntry _ hArg)
    rw [hGet]
    exact ⟨rfl, exec_of_body_ok hi hRun (hBody.trans (listReadBody_of_lt hValid hArg))⟩

/-- The latched indices are in range, evaluated or not (10_state.md R50). -/
theorem GoodState.latch_lt {s : State} (h : GoodState s) :
    s.blk.sCur.toNat < s.cfg.nTx ∧ s.blk.sDirty.toNat < s.cfg.nTx := by
  cases hValid : s.blk.txValid with
  | true =>
    obtain ⟨hCur, hDirty, -⟩ := h.tx_some hValid
    exact ⟨hCur, hDirty⟩
  | false =>
    obtain ⟨hn, -⟩ := capacities_of_wf h.cfg_wf
    obtain ⟨-, -, -, hCur, hDirty⟩ := h.tx_none hValid
    rw [hCur, hDirty]
    exact ⟨hn, hn⟩

/-- The recorded counts are the lengths of the lists of the latched snapshot in the stored case (10_state.md R37). -/
theorem TxRecorded.lengths {n : Nat} {b : Block} (h : TxRecorded n b) :
    (freeList b.sCur.toNat b.sDirty.toNat (txResCase b.txRes) n).length = b.txFreeCnt.toNat ∧
    (inflList b.sCur.toNat b.sDirty.toNat (txResCase b.txRes) n).length = b.txInflCnt.toNat := by
  obtain ⟨-, -, f, q, hRes, hFree, hInfl⟩ := h
  have hCase : txResCase b.txRes = txCaseOf f.toNat q.toNat n := hRes ▸ txResCase_txResWord _ _ _ _
  rw [hCase]
  exact ⟨hFree.symm, hInfl.symm⟩

/-- Settles O21: TX_FREE_AT's body is a read of the free list, which runs round the ring from `S_CUR`. -/
theorem txFreeAtReadsTheLatchedList : Obligations.TxFreeAtReadsTheLatchedList := by
  refine ⟨rfl, ?_⟩
  rintro s l hGood hRun rfl
  obtain ⟨hCur, hDirty⟩ := hGood.latch_lt
  have hLen := freeList_length (txResCase s.blk.txRes) hCur hDirty
  obtain ⟨hUnevaluated, hPast, hEntry⟩ := exec_listRead (i := .txFreeAt) nofun hRun
    (hLen.symm ▸ rfl) fun j hj => freeList_getElem? _ hCur hDirty (hLen ▸ hj)
  exact ⟨hUnevaluated, fun hValid => (hGood.tx_some hValid).lengths.1, hPast, hEntry⟩

/-- Settles O22: TX_INFL_AT's body is a read of the in-flight list, which runs round the ring from `S_DIRTY`. -/
theorem txInflAtReadsTheLatchedList : Obligations.TxInflAtReadsTheLatchedList := by
  refine ⟨rfl, ?_⟩
  rintro s l hGood hRun rfl
  obtain ⟨hCur, hDirty⟩ := hGood.latch_lt
  have hLen := inflList_length (txResCase s.blk.txRes) hCur hDirty
  obtain ⟨hUnevaluated, hPast, hEntry⟩ := exec_listRead (i := .txInflAt) nofun hRun
    (hLen.symm ▸ rfl) fun j hj => inflList_getElem? _ hCur hDirty (hLen ▸ hj)
  exact ⟨hUnevaluated, fun hValid => (hGood.tx_some hValid).lengths.2, hPast, hEntry⟩

end Sys2Proof.Machine
end

section
/-! `RxCount` (41_rx_tracker.md R134, R135): its counts in the three cases, and the modular form of the two that are
not ambiguous. -/

namespace Sys2Proof.Machine

theorem rxDevCount_add_rxDrvCount {hi ti n : Nat} (hHead : hi < n) (hTail : ti < n) :
    rxDevCount hi ti n + rxDrvCount hi ti n = n :=
  Nat.add_sub_of_le (rxDevCount_le hHead hTail)

@[simp] theorem rxDevCount_self (hi n : Nat) : rxDevCount hi hi n = 0 := if_pos rfl

theorem rxDevCount_of_gt {hi ti : Nat} (n : Nat) (h : ti < hi) : rxDevCount hi ti n = n - (hi - ti) + 1 :=
  (if_neg h.ne').trans (if_pos h)

theorem rxDevCount_of_lt {hi ti : Nat} (n : Nat) (h : hi < ti) : rxDevCount hi ti n = ti - hi + 1 :=
  (if_neg h.ne).trans (if_neg h.not_gt)

section
variable {hi ti n : Nat}

/-- Both cases that are not ambiguous count the slots from head to tail inclusive, in ring order (R135). -/
theorem rxDevCount_eq_subMod (hHead : hi < n) (hTail : ti < n) (hne : hi ≠ ti) :
    rxDevCount hi ti n = subMod ti hi n + 1 := by
  rcases hne.lt_or_gt with hNoWrap | hWrap
  · rw [rxDevCount_of_lt n hNoWrap, subMod_of_le hNoWrap.le (by omega)]
  · rw [rxDevCount_of_gt n hWrap, subMod_of_lt hWrap (by omega)]
    omega

/-- R135's tight lower bound. -/
theorem two_le_rxDevCount (hHead : hi < n) (hne : hi ≠ ti) : 2 ≤ rxDevCount hi ti n := by
  rcases hne.lt_or_gt with hNoWrap | hWrap
  · rw [rxDevCount_of_lt n hNoWrap]
    omega
  · rw [rxDevCount_of_gt n hWrap]
    omega

/-- The slot after `ti` in ring order is the next one, or slot 0 from the last. -/
theorem eq_succ_mod_iff (hTail : ti < n) : hi = (ti + 1) % n ↔ hi = ti + 1 ∧ hi < n ∨ hi = 0 ∧ ti + 1 = n := by
  rcases (show ti + 1 ≤ n from hTail).lt_or_eq with hInside | hLast
  · rw [Nat.mod_eq_of_lt hInside]
    omega
  · rw [hLast, Nat.mod_self]
    omega

/-- The device owns the whole ring exactly when the head is the slot after the tail (R135). -/
theorem rxDevCount_eq_iff (hHead : hi < n) (hTail : ti < n) (hne : hi ≠ ti) :
    rxDevCount hi ti n = n ↔ hi = (ti + 1) % n := by
  rw [eq_succ_mod_iff hTail]
  rcases hne.lt_or_gt with hNoWrap | hWrap
  · rw [rxDevCount_of_lt n hNoWrap]
    omega
  · rw [rxDevCount_of_gt n hWrap]
    omega

end

end Sys2Proof.Machine
end

section
/-! RX_EVAL (41_rx_tracker.md R136): its three outcomes, and what follows once it has completed. -/

namespace Sys2Proof.Machine

theorem ptrWidth_bits_eq_ite (w : PtrWidth) : w.bits = if w = .w64 then 64 else 32 := by cases w <;> rfl

section
variable {c : Config} {b : Block}

/-- A pointer's offset is the residue of its distance from `RX_BASE` at the instance's width (R131). -/
theorem eq_rxOffset {p : Ptr} {off width : Nat} (hWidth : width = if c.ptrW = .w64 then 64 else 32)
    (hOff : (off : Int) = ((ptrValue c b p : Int) - (ptrValue c b .rxBase : Int)) % (2 ^ width : Int)) :
    off = rxOffset c b p := by
  rw [← ptrWidth_bits_eq_ite] at hWidth
  subst hWidth
  exact (eq_subMod_iff (Nat.two_pow_pos _)).mpr (by exact_mod_cast hOff)

theorem rxEvalBody_of_head_ge (hHead : c.nRx ≤ rxIndex c b .rxHead) :
    rxEvalBody c b = .error ⟨.rxIdxRange, false⟩ :=
  if_pos hHead

theorem rxEvalBody_of_tail_ge (hHead : rxIndex c b .rxHead < c.nRx) (hTail : c.nRx ≤ rxIndex c b .rxTail) :
    rxEvalBody c b = .error ⟨.rxIdxRange, true⟩ :=
  (if_neg hHead.not_ge).trans (if_pos hTail)

theorem rxEvalBody_of_lt (hHead : rxIndex c b .rxHead < c.nRx) (hTail : rxIndex c b .rxTail < c.nRx) :
    rxEvalBody c b = .ok (rxEvalStore c b) :=
  (if_neg hHead.not_ge).trans (if_neg hTail.not_ge)

end

/-- Settles O23: with the two offsets read as the model's, the three outcomes of the body. -/
theorem rxEvalFollowsItsRule : Obligations.RxEvalFollowsItsRule := by
  refine ⟨rfl, ?_⟩
  rintro s n size width hoff toff hi ti dev - hRun rfl rfl hWidth hHeadOff hTailOff rfl rfl rfl
  obtain rfl := eq_rxOffset hWidth hHeadOff
  obtain rfl := eq_rxOffset hWidth hTailOff
  refine ⟨fun hHead hTail => ?_, fun hHead => ?_, fun hHead hTail => ?_⟩
  · rw [exec_of_body_ok (i := .rxEval) nofun hRun (rxEvalBody_of_lt hHead hTail), rxEvalStore_eq]
    rfl
  · exact exec_of_body_error (i := .rxEval) nofun hRun (rxEvalBody_of_head_ge hHead)
  · exact exec_of_body_error (i := .rxEval) nofun hRun (rxEvalBody_of_tail_ge hHead hTail)

/-- A command that leaves the block running took no Fatal, so it has completed (60_exceptions.md R172). -/
theorem completes_of_exec {i : Instr} {s t : State} (hi : i ≠ .srst) (hRun : s.blk.halt = false)
    (h : exec i s = .next t) (hDone : t.blk.halt = false) : Completes s.cfg s.blk i t.blk := by
  obtain ⟨-, ⟨hSrst, -⟩ | ⟨-, hHalt, -⟩ | ⟨-, hCompletes⟩ | ⟨e, -, -, hFatal⟩⟩ := exec_next_cases h
  · exact absurd hSrst hi
  · exact absurd (hHalt.symm.trans hRun) nofun
  · exact hCompletes
  · rw [hFatal] at hDone
    exact absurd hDone nofun

theorem rxRecorded_of_exec_rxEval {s t : State} (hwf : s.cfg.wf = true) (hRun : s.blk.halt = false)
    (h : exec .rxEval s = .next t) (hDone : t.blk.halt = false) : RxRecorded s.cfg.nRx t.blk := by
  obtain ⟨hHead, hTail, hBlk⟩ := (completes_of_exec (i := .rxEval) nofun hRun h hDone).of_rxEval
  obtain ⟨-, -, -, hn⟩ := capacities_of_wf hwf
  exact hBlk ▸ rxRecorded_rxEvalStore hn hHead hTail

/-- Settles O29: a completed RX_EVAL records the counts of its two indices, to which the rules of `RxCount` apply. -/
theorem rxCountsAreExact : Obligations.RxCountsAreExact := by
  rintro s t n hi ti dev hwf hRun hExec hDone rfl rfl rfl rfl
  obtain ⟨hHead, hTail, hDev, hDrv, -⟩ := rxRecorded_of_exec_rxEval hwf hRun hExec hDone
  rw [hDev, hDrv]
  refine ⟨hHead, hTail, rxDevCount_add_rxDrvCount hHead hTail, fun hEq => hEq ▸ rxDevCount_self _ _, fun hne =>
    ⟨two_le_rxDevCount hHead hne, rxDevCount_le hHead hTail, ?_, rxDevCount_eq_iff hHead hTail hne⟩⟩
  rw [rxDevCount_eq_subMod hHead hTail hne, Nat.cast_add_one,
    (eq_subMod_iff (Nat.zero_lt_of_lt hHead)).mp rfl]

end Sys2Proof.Machine
end

section
/-! The slot address (42_descriptor_address.md R150): its range, the two halves it is returned in, and its distance from
the ring's base. -/

namespace Sys2Proof.Machine

theorem two_pow_bits_eq_ite (w : PtrWidth) : 2 ^ w.bits = if w = .w64 then 2 ^ 64 else 2 ^ 32 := by cases w <;> rfl

theorem addrHi_of_w64 {c : Config} (hw : c.ptrW = .w64) (a : Nat) : addrHi c a = BitVec.ofNat 32 (a / 2 ^ 32) := by
  simp only [addrHi, hw]

theorem extractLsb'_lo_eq_addrLo (a : Nat) : (BitVec.ofNat 64 a).extractLsb' 0 32 = addrLo a := by
  apply BitVec.eq_of_toNat_eq
  simp only [addrLo, BitVec.extractLsb'_toNat, BitVec.toNat_ofNat, Nat.shiftRight_zero]
  omega

/-- `RESULT_HI` is bits 63:32 of the address at 64 bits, and 0 at 32 bits (R152, R154). -/
theorem ite_extractLsb'_hi_eq_addrHi (c : Config) (a : Nat) :
    (if c.ptrW = .w64 then (BitVec.ofNat 64 a).extractLsb' 32 32 else 0#32) = addrHi c a := by
  cases hw : c.ptrW with
  | w32 => exact (addrHi_of_w32 hw a).symm
  | w64 =>
    rw [addrHi_of_w64 hw, if_pos rfl]
    apply BitVec.eq_of_toNat_eq
    simp only [BitVec.extractLsb'_toNat, BitVec.toNat_ofNat, Nat.shiftRight_eq_div_pow]
    omega

/-- A pointer whose halves are `RESULT_LO` and `RESULT_HI` of an address holds that address. -/
theorem ptrValue_of_result {c : Config} {b : Block} {p : Ptr} {a : Nat} (hLo : ptrLo b p = addrLo a)
    (hHi : ptrHi b p = addrHi c a) (ha : a < 2 ^ c.ptrW.bits) : ptrValue c b p = a := by
  cases hw : c.ptrW with
  | w32 =>
    rw [hw, PtrWidth.bits] at ha
    rw [ptrValue_of_w32 hw, hLo, addrLo, BitVec.toNat_ofNat, Nat.mod_eq_of_lt ha]
  | w64 =>
    rw [hw, PtrWidth.bits] at ha
    rw [ptrValue_of_w64 hw, hHi, hLo, addrHi_of_w64 hw, addrLo, BitVec.toNat_ofNat, BitVec.toNat_ofNat]
    omega

theorem slotAddr_lt (c : Config) (base i : Nat) : slotAddr c base i < 2 ^ c.ptrW.bits :=
  Nat.mod_lt _ (Nat.two_pow_pos _)

/-- Subtracting what was added, both modulo `m`, leaves the summand, wrapped or not (00_scope.md R12). -/
theorem subMod_addMod_cancel_left {k m : Nat} (a : Nat) (hk : k < m) : subMod (addMod a k m) a m = k := by
  refine ((eq_subMod_iff (Nat.zero_lt_of_lt hk)).mpr ?_).symm
  rw [addMod, Int.natCast_mod, Int.emod_sub_emod, Nat.cast_add, add_sub_cancel_left]
  exact_mod_cast (Nat.mod_eq_of_lt hk).symm

/-- Slot `i` lies `i * DESC_SIZE` past the base, as long as that distance fits the address space. -/
theorem ptrSub_slotAddr_base {c : Config} {i : Nat} (base : Nat) (hFits : i * c.descSize < 2 ^ c.ptrW.bits) :
    ptrSub c (slotAddr c base i) base = i * c.descSize :=
  subMod_addMod_cancel_left base hFits

end Sys2Proof.Machine
end

section
/-! TX_DESC_ADDR and RX_DESC_ADDR (42_descriptor_address.md R152, R154): one argument for both, over the ring that is
addressed. -/

namespace Sys2Proof.Machine

section
variable {n : Nat} {p : Ptr} {c : Config} {b : Block}

theorem descAddrBody_of_le (hArg : n ≤ b.arg.toNat) : descAddrBody n p c b = .error ⟨.descIdxRange, false⟩ :=
  if_pos hArg

theorem descAddrBody_of_lt (hArg : b.arg.toNat < n) : descAddrBody n p c b =
    .ok (b.storeResult (addrLo (slotAddr c (ptrValue c b p) b.arg.toNat))
      (addrHi c (slotAddr c (ptrValue c b p) b.arg.toNat))) :=
  if_neg hArg.not_ge

end

/-- A command whose body is the address of slot `ARG` in the ring of `n` slots based at the pointer `p`: the two halves
of the wrapped address, or its error. -/
theorem exec_descAddr {i : Instr} {s : State} {n a : Nat} {p : Ptr} (hi : i ≠ .srst) (hRun : s.blk.halt = false)
    (hBody : bodyOf i s.cfg s.blk = descAddrBody n p s.cfg s.blk)
    (ha : a = (ptrValue s.cfg s.blk p + s.blk.arg.toNat * s.cfg.descSize) %
      (if s.cfg.ptrW = .w64 then 2 ^ 64 else 2 ^ 32)) :
    (s.blk.arg.toNat < n → exec i s = .next (s.withBlk (s.blk.storeResult ((BitVec.ofNat 64 a).extractLsb' 0 32)
      (if s.cfg.ptrW = .w64 then (BitVec.ofNat 64 a).extractLsb' 32 32 else 0#32)))) ∧
    (n ≤ s.blk.arg.toNat →
      exec i s = .next (s.withBlk (s.blk.enterFatal (opField (encode i)) ⟨.descIdxRange, false⟩))) := by
  rw [← two_pow_bits_eq_ite] at ha
  obtain rfl : a = slotAddr s.cfg (ptrValue s.cfg s.blk p) s.blk.arg.toNat := ha
  rw [extractLsb'_lo_eq_addrLo, ite_extractLsb'_hi_eq_addrHi]
  exact ⟨fun hArg => exec_of_body_ok hi hRun (hBody.trans (descAddrBody_of_lt hArg)),
    fun hArg => exec_of_body_error hi hRun (hBody.trans (descAddrBody_of_le hArg))⟩

/-- Settles O24: TX_DESC_ADDR's body addresses the ring of `N_TX` slots at `TX_BASE`. -/
theorem txDescAddrGivesTheSlotAddress : Obligations.TxDescAddrGivesTheSlotAddress :=
  ⟨rfl, fun _ _ hRun ha => exec_descAddr (i := .txDescAddr) nofun hRun rfl ha⟩

/-- Settles O25: RX_DESC_ADDR's body addresses the ring of `N_RX` slots at `RX_BASE`. -/
theorem rxDescAddrGivesTheSlotAddress : Obligations.RxDescAddrGivesTheSlotAddress :=
  ⟨rfl, fun _ _ hRun ha => exec_descAddr (i := .rxDescAddr) nofun hRun rfl ha⟩

/-- A head pointer at slot `i`'s address derives the index `i` (41_rx_tracker.md R131). -/
theorem rxIndex_of_slotAddr {c : Config} {b : Block} {p : Ptr} {i : Nat} (hSize : 0 < c.descSize)
    (hFits : i * c.descSize < 2 ^ c.ptrW.bits) (hPtr : ptrValue c b p = slotAddr c (ptrValue c b .rxBase) i) :
    rxIndex c b p = i := by
  rw [rxIndex, rxOffset, hPtr, ptrSub_slotAddr_base _ hFits, Nat.mul_div_cancel i hSize]

theorem descSize_pos_of_wf {c : Config} (h : c.wf = true) : 0 < c.descSize := by
  simp only [Config.wf, Bool.and_eq_true, decide_eq_true_eq] at h
  omega

/-- Settles O26: the result's halves in `RX_HEAD` hold the slot's address, whose distance from `RX_BASE` is `ARG` whole
descriptors; `RX_BASE` itself is untouched. -/
theorem slotAddressInvertsIndexDerivation : Obligations.SlotAddressInvertsIndexDerivation := by
  intro s hwf hRun hArg hFits
  refine ⟨_, exec_of_body_ok (i := .rxDescAddr) nofun hRun (descAddrBody_of_lt hArg), ?_⟩
  exact rxIndex_of_slotAddr (descSize_pos_of_wf hwf) hFits (ptrValue_of_result rfl rfl (slotAddr_lt _ _ _))

end Sys2Proof.Machine
end

section
/-! The control commands (43_control.md R161 to R163): what they answer at a running and at a halted block, and what the
reset block reads as. -/

namespace Sys2Proof.Machine

theorem readReg_reset {r : Reg} (hNtx : r ≠ .capNtx) (hNrx : r ≠ .capNrx) (hMisc : r ≠ .capMisc) (c : Config) :
    readReg c Block.reset r = 0#32 := by
  cases r with
  | capNtx => exact absurd rfl hNtx
  | capNrx => exact absurd rfl hNrx
  | capMisc => exact absurd rfl hMisc
  | txBaseHi | rxHeadHi | rxTailHi | rxBaseHi => exact (rw64Read_eq_ite c 0#32).trans (ite_self _)
  | _ => rfl

/-- The `CAP_*` registers stand at their own offsets only (10_state.md R23). -/
theorem ne_cap_of_regAt {off : Nat} {r : Reg} {a : AccessCode} (hreg : regAt off = some (r, a))
    (hoff : ¬ (off = 0x08 ∨ off = 0x0C ∨ off = 0x10)) : r ≠ .capNtx ∧ r ≠ .capNrx ∧ r ≠ .capMisc := by
  have hTable : ∀ row ∈ regTable, ¬ (row.1 = 0x08 ∨ row.1 = 0x0C ∨ row.1 = 0x10) →
      row.2.1 ≠ .capNtx ∧ row.2.1 ≠ .capNrx ∧ row.2.1 ≠ .capMisc := by decide
  exact hTable _ (mem_regTable_of_regAt hreg) hoff

/-- After a reset every offset but those of the `CAP_*` registers reads 0, reserved or not (10_state.md R23, R24). -/
theorem readOffset_reset_of_not_cap {off : Nat} (hoff : ¬ (off = 0x08 ∨ off = 0x0C ∨ off = 0x10)) (c : Config) :
    readOffset c Block.reset off = 0#32 := by
  cases hreg : regAt off with
  | none => simp only [readOffset, hreg]
  | some row =>
    obtain ⟨hNtx, hNrx, hMisc⟩ := ne_cap_of_regAt hreg hoff
    exact (readOffset_of_regAt hreg Block.reset).trans (readReg_reset hNtx hNrx hMisc c)

/-- Settles O19: SRST answers `softReset`, halted or not; its block reads 0 wherever the block is what is read, and a
`CAP_*` register reads the parameters alone. -/
theorem srstResetsEveryField : Obligations.SrstResetsEveryField := by
  refine ⟨fun w => decode_eq_ok_iff (i := .srst), exec_srst, fun s t hExec => ?_⟩
  obtain rfl : softReset s = t := Host.Outcome.next.inj hExec
  refine ⟨readReg_reset (r := .status) nofun nofun nofun s.cfg, fun off => ?_⟩
  rw [softReset_cfg, softReset_blk]
  split
  · next hoff => exact readOffset_cap_eq s.cfg Block.reset s.blk hoff
  · next hoff => exact readOffset_reset_of_not_cap hoff s.cfg

/-- A halted block ignores every command but SRST (60_exceptions.md R174). -/
theorem exec_halted {i : Instr} {s : State} (hi : i ≠ .srst) (hHalt : s.blk.halt = true) : exec i s = .next s :=
  (exec_eq_runBody hi s).trans (runBody_halted hHalt)

/-- Settles O17: a running block completes NOP with the block it had, a halted one ignores it. -/
theorem nopHasNoEffect : Obligations.NopHasNoEffect := by
  refine ⟨rfl, fun w => decode_eq_ok_iff (i := .nop), fun s => ?_⟩
  cases hHalt : s.blk.halt with
  | true => exact exec_halted nofun hHalt
  | false => exact exec_of_body_ok (i := .nop) nofun hHalt rfl

/-- `STATUS.WARN` reads 0 once the count is cleared (10_state.md R30). -/
theorem statusWord_clearWarn_warn (b : Block) : (statusWord b.clearWarn).getLsbD 1 = false := by
  obtain ⟨-, hWarn, -, -⟩ := statusWord_bits b.clearWarn
  rw [hWarn]
  rfl

/-- Settles O18: a running block completes CLR_WARN with its one write, a halted one ignores it. -/
theorem clrWarnClearsTheWarningCount : Obligations.ClrWarnClearsTheWarningCount :=
  ⟨rfl, fun _ hRun => exec_of_body_ok (i := .clrWarn) nofun hRun rfl, fun s => statusWord_clearWarn_warn s.blk,
    fun _ hHalt => exec_halted nofun hHalt⟩

end Sys2Proof.Machine
end

section
/-! Into the halted state and out of it again (60_exceptions.md R171 to R175, R177): what one step does to `HALT`, from
the cases of `StepBlock`, and what a run from a halted block can still change. -/

namespace Sys2Proof.Machine

section
variable {s t : State} {b : Block}

/-- A step that halts the block is the Fatal of a word written to `CMD` (60_exceptions.md R173). -/
theorem StepBlock.fatal_of_halts (h : StepBlock s b) (hRun : s.blk.halt = false) (hHalts : b.halt = true) :
    ∃ (w : Word) (rest : List Event) (e : FatalError), s.pending = cmdWrite s.cfg w :: rest ∧
      legalError e.code (opField w) e.which = true ∧ b = s.blk.enterFatal (opField w) e := by
  have hEnters : b.halt ≠ s.blk.halt := by rw [hHalts, hRun]; decide
  cases h with
  | fatal hNext _ hLegal => exact ⟨_, _, _, hNext, hLegal, rfl⟩
  | kept => exact absurd rfl hEnters
  | reset => exact absurd hHalts nofun
  | stored off v => rw [writeOffset_eq_withInputs] at hEnters; exact absurd rfl hEnters
  | completed _ _ hDone => exact absurd hDone.halt_eq hEnters

/-- A step of a halted block is a reset, or it replaces input registers only (60_exceptions.md R174, R175). -/
theorem StepBlock.of_halted (h : StepBlock s b) (hHalt : s.blk.halt = true) :
    (NextIsReset s ∧ b = Block.reset) ∨ b = s.blk.withInputs b := by
  cases h with
  | kept => exact .inr rfl
  | reset hNext => exact .inl ⟨hNext, rfl⟩
  | stored off v => exact .inr (writeOffset_eq_withInputs s.cfg s.blk off v)
  | completed _ hRun => exact absurd (hHalt.symm.trans hRun) nofun
  | fatal _ hRun => exact absurd (hHalt.symm.trans hRun) nofun

theorem halt_eq_of_withInputs {b b' : Block} (h : b' = b.withInputs b') : b'.halt = b.halt := by
  rw [h]; rfl

theorem pending_of_leavePending_eq_next {es : List Event} {r : Result} (h : leavePending es r = .next t) :
    t.pending = es := by
  cases r with
  | next u => obtain rfl := Host.Outcome.next.inj h; rfl
  | fault f => cases h
  | refused r => cases h

/-- A step uses up the oldest event and no other (20_memory.md R70). -/
theorem step_next_pending (h : step s = .next t) : t.pending = s.pending.tail := by
  cases hNext : s.pending with
  | nil =>
    obtain rfl := Host.Outcome.next.inj ((step_idle hNext).symm.trans h)
    exact hNext
  | cons e rest =>
    rw [step_cons hNext, serveEvent_withPending] at h
    exact pending_of_leavePending_eq_next h

theorem not_nextIsReset_of_pending (hEvents : ∀ e ∈ s.pending, clearsHalt s.cfg e = false) : ¬ NextIsReset s := by
  rintro ⟨e, rest, hNext, hClears⟩
  have hKeeps := hEvents e (by rw [hNext]; exact List.mem_cons_self)
  exact absurd (hClears.symm.trans hKeeps) nofun

/-- A run from a halted block with no reset to come replaces input registers only: each step does, it stays halted, and
it adds no event. -/
theorem runSteps_halted_eq_withInputs {k : Nat} (hHalt : s.blk.halt = true)
    (hEvents : ∀ e ∈ s.pending, clearsHalt s.cfg e = false) (h : runSteps k s = .next t) :
    t.blk = s.blk.withInputs t.blk := by
  induction k generalizing s with
  | zero => obtain rfl := Host.Outcome.next.inj h; rfl
  | succ k ih =>
    cases hStep : step s with
    | fault f => exact absurd ((runSteps_succ_fault hStep).symm.trans h) nofun
    | refused r => exact absurd ((runSteps_succ_refused hStep).symm.trans h) nofun
    | next u =>
      obtain ⟨hcfg, hBlock⟩ := step_next_cases hStep
      have hFirst : u.blk = s.blk.withInputs u.blk :=
        (hBlock.of_halted hHalt).resolve_left fun hReset => not_nextIsReset_of_pending hEvents hReset.1
      have hLater : ∀ e ∈ u.pending, clearsHalt u.cfg e = false := by
        rw [hcfg, step_next_pending hStep]
        exact fun e he => hEvents e (List.mem_of_mem_tail he)
      have hRest : t.blk = u.blk.withInputs t.blk :=
        ih ((halt_eq_of_withInputs hFirst).trans hHalt) hLater ((runSteps_succ_next hStep).symm.trans h)
      rw [hFirst] at hRest
      exact hRest

/-- The two events that clear `HALT` are the ones R175 names. -/
theorem clearsHalt_eq_true_iff {c : Config} {e : Event} :
    clearsHalt c e = true ↔ e = .hwReset ∨ e = cmdWrite c (encode .srst) := by
  constructor
  · intro hClears
    match e with
    | .hwReset => exact .inl rfl
    | .access (.read _ _) => cases hClears
    | .access (.write a n v) =>
      simp only [clearsHalt, Bool.and_eq_true, decide_eq_true_eq] at hClears
      obtain ⟨hOff, rfl⟩ := hClears
      obtain ⟨rfl, rfl, -, -⟩ := windowOffset_eq_some_iff.mp hOff
      exact .inr rfl
  · rintro (rfl | rfl)
    · rfl
    · exact clearsHalt_srst c

/-- Each of the two resets, from any state, leaves the reset block (60_exceptions.md R175). -/
theorem step_of_nextIsReset (h : NextIsReset s) : ∃ t, step s = .next t ∧ t.blk = Block.reset := by
  obtain ⟨e, rest, hNext, hClears⟩ := h
  rcases clearsHalt_eq_true_iff.mp hClears with rfl | rfl
  · exact ⟨_, step_cons hNext, rfl⟩
  · exact ⟨_, (step_cmdWrite hNext).trans (runWord_of_decode_ok (decode_encode .srst) _), rfl⟩

/-- A halted block ignores every word but SRST's, legal or not (60_exceptions.md R174). -/
theorem runWord_halted {w : Word} (hWord : w ≠ encode .srst) (hHalt : s.blk.halt = true) : runWord w s = .next s := by
  cases hDecode : decode w with
  | ok i =>
    have hi : i ≠ .srst := by
      rintro rfl
      exact hWord (eq_encode_of_decode hDecode)
    exact (runWord_of_decode_ok hDecode s).trans (exec_halted hi hHalt)
  | error d => exact (runWord_of_decode_error hDecode s).trans (runIllegal_halted hHalt w d)

end

/-- Settles O34: the run leaves the block it started from with other input registers, and the seventeen fields are none
of them. -/
theorem haltIsStickyAlongRuns : Obligations.HaltIsStickyAlongRuns := by
  intro k s t hHalt hEvents hRun
  rw [runSteps_halted_eq_withInputs hHalt hEvents hRun]
  exact ⟨hHalt, rfl, rfl, rfl, rfl, rfl, rfl, rfl, rfl, rfl, rfl, rfl, rfl, rfl, rfl, rfl, rfl⟩

/-- Settles O31: the step is the Fatal of a written word, and a written word replaces the block record only. -/
theorem fatalEntryIsPrecise : Obligations.FatalEntryIsPrecise := by
  intro s t hRun hStep hHalts
  obtain ⟨-, hBlock⟩ := step_next_cases hStep
  obtain ⟨w, rest, e, hNext, hLegal, hFatal⟩ := hBlock.fatal_of_halts hRun hHalts
  obtain ⟨b, hWord⟩ := runWord_eq_next_withBlk w ((s.withPending rest).withReply .stored)
  obtain rfl := Host.Outcome.next.inj (hStep.symm.trans ((step_cmdWrite hNext).trans hWord))
  obtain rfl : b = s.blk.enterFatal (opField w) e := hFatal
  exact ⟨w, rest, e.code, e.which, hNext, hLegal, rfl⟩

/-- Settles O32: what a halted block ignores is the command; the port's own reads and writes do not look at `HALT`. -/
theorem haltedBlockIgnoresCommands : Obligations.HaltedBlockIgnoresCommands := by
  intro s hHalt
  refine ⟨fun i hi => exec_halted hi hHalt, fun w rest hNext hWord => ?_,
    fun off v rest hTop hAligned hNotCmd hNext => ?_, fun off rest hTop hAligned hNext => ?_⟩
  · exact (step_cmdWrite hNext).trans (runWord_halted (s := (s.withPending rest).withReply .stored) hWord hHalt)
  · exact step_write hTop hAligned hNotCmd hNext
  · exact step_read hTop hAligned hNext

/-- Settles O33: a step of a halted block that is no reset replaces input registers only, and `HALT` is none. -/
theorem onlyResetLeavesTheHaltedState : Obligations.OnlyResetLeavesTheHaltedState := by
  refine ⟨fun s t hHalt hStep hCleared => ?_, fun s hNext => step_of_nextIsReset hNext⟩
  obtain ⟨-, hBlock⟩ := step_next_cases hStep
  refine (hBlock.of_halted hHalt).resolve_right fun hKept => ?_
  exact absurd (hCleared.symm.trans ((halt_eq_of_withInputs hKept).trans hHalt)) nofun

end Sys2Proof.Machine
end

section
/-! Out of reset (70_reset_and_hazards.md R200, R201): the reset state, the two ways back to it, and what each command
answers there. -/

namespace Sys2Proof.Machine

theorem goodState_resetOf {c : Config} (hwf : c.wf = true) : GoodState (State.resetOf c) :=
  goodState_reset (s := State.resetOf c) hwf

/-- Settles O4: a reset state is good by its parameters alone, and those of log 2 are in range. -/
theorem resetStateIsGood : Obligations.ResetStateIsGood :=
  ⟨fun _ => goodState_resetOf, goodState_resetOf (by decide)⟩

/-- The step of a hardware reset (70_reset_and_hazards.md R200; log 4). -/
theorem step_hwReset {s : State} {rest : List Event} (hNext : s.pending = .hwReset :: rest) :
    step s = .next ((softReset (s.withPending rest)).withReply .none) :=
  step_cons hNext

/-- Settles O6: the reset event and SRST both answer `softReset`. -/
theorem hardwareResetIsSoftReset : Obligations.HardwareResetIsSoftReset :=
  ⟨rfl, rfl, fun _ _ => step_hwReset, exec_srst⟩

/-- TX_EVAL on the reset block: counts 0 and 0 name neither full ring, so the case is MIXED with two empty walks, and
they do not sum to `N_TX`. -/
theorem txEvalStore_reset {n : Nat} (hn : 0 < n) :
    txEvalStore n Block.reset = { Block.reset with txRes := 0x00000013#32, txValid := true } := by
  have hCase : txCaseOf 0 0 n = .mixed := by simp [txCaseOf, hn.ne]
  have hIncons : txConsistent 0 0 0 0 n = false := by simp [txConsistent, hn.ne]
  simp only [txEvalStore, txEvalRes, Block.reset_txCur, Block.reset_txDirty, Block.reset_txFree, Block.reset_txQueued,
    BitVec.toNat_zero, hCase, hIncons, freeLen, inflLen, subMod_self]
  rfl

theorem ptrValue_reset (c : Config) (p : Ptr) : ptrValue c Block.reset p = 0 := by
  cases hw : c.ptrW with
  | w32 => rw [ptrValue_of_w32 hw]; cases p <;> rfl
  | w64 => rw [ptrValue_of_w64 hw]; cases p <;> rfl

theorem rxOffset_reset (c : Config) (p : Ptr) : rxOffset c Block.reset p = 0 := by
  rw [rxOffset, ptrValue_reset, ptrValue_reset]
  exact subMod_self 0 _

theorem rxIndex_reset (c : Config) (p : Ptr) : rxIndex c Block.reset p = 0 := by
  rw [rxIndex, rxOffset_reset, Nat.zero_div]

theorem rxRemainder_reset (c : Config) (p : Ptr) : rxRemainder c Block.reset p = false := by
  simp [rxRemainder, rxOffset_reset]

/-- RX_EVAL on the reset block: both indices are 0, the ambiguous case that counts every slot as the driver's and
warns (41_rx_tracker.md R134, R137). -/
theorem rxEvalStore_reset (c : Config) :
    rxEvalStore c Block.reset = { Block.reset with
      rxRes := 0x00000001#32, rxDrvCnt := BitVec.ofNat 32 c.nRx, rxValid := true, warnCnt := 1#32 } := by
  rw [rxEvalStore_eq]
  simp only [rxIndex_reset, rxRemainder_reset, rxDrvCount, rxDevCount_self]
  rfl

theorem slotAddr_zero_zero (c : Config) : slotAddr c 0 0 = 0 := by
  simp [slotAddr, ptrAdd, addMod]

theorem addrHi_zero (c : Config) : addrHi c 0 = 0#32 := by
  cases hw : c.ptrW with
  | w32 => exact addrHi_of_w32 hw 0
  | w64 => exact addrHi_of_w64 hw 0

/-- Slot 0 at base 0 has address 0, which `RESULT` holds already. -/
theorem descAddrBody_reset {n : Nat} (hn : 0 < n) (p : Ptr) (c : Config) :
    descAddrBody n p c Block.reset = .ok Block.reset := by
  rw [descAddrBody_of_lt hn, ptrValue_reset, Block.reset_arg, BitVec.toNat_zero, slotAddr_zero_zero, addrHi_zero]
  rfl

/-- Settles O7: the reset block runs each command's body, and each body is known there. -/
theorem firstCommandsAfterReset : Obligations.FirstCommandsAfterReset := by
  intro c hwf
  obtain ⟨hTx, -, hRx, -⟩ := capacities_of_wf hwf
  have hIndex (p : Ptr) : rxIndex c Block.reset p < c.nRx := (rxIndex_reset c p).symm ▸ hRx
  refine ⟨readReg_reset (r := .status) nofun nofun nofun c, ?_, ?_, ?_, ?_, ?_, ?_⟩
  · exact exec_of_body_error (i := .txFreeAt) nofun rfl (listReadBody_of_not_valid rfl)
  · exact exec_of_body_error (i := .txInflAt) nofun rfl (listReadBody_of_not_valid rfl)
  · rw [← txEvalStore_reset hTx]
    exact exec_of_body_ok (i := .txEval) nofun rfl (txEvalBody_of_lt hTx hTx)
  · rw [← rxEvalStore_reset]
    exact exec_of_body_ok (i := .rxEval) nofun rfl (rxEvalBody_of_lt (hIndex .rxHead) (hIndex .rxTail))
  · exact exec_of_body_ok (i := .txDescAddr) nofun rfl (descAddrBody_reset hTx .txBase c)
  · exact exec_of_body_ok (i := .rxDescAddr) nofun rfl (descAddrBody_reset hRx .rxBase c)

end Sys2Proof.Machine
end

section
/-! A 64-bit pointer with one half written (70_reset_and_hazards.md R211). -/

namespace Sys2Proof.Machine

section
variable {c : Config} (b : Block) (p : Ptr) (v : Word)

theorem ptrValue_writeOffset_ptrLoReg (hw : c.ptrW = .w64) :
    ptrValue c (writeOffset c b (regOffset (ptrLoReg p)) v) p = (ptrHi b p).toNat * 2 ^ 32 + v.toNat := by
  rw [ptrValue_of_w64 hw, writeOffset_of_rw (regAt_ptrLoReg p), ptrHi_storeReg_of_ne (ptrLoReg_ne_ptrHiReg p p),
    ptrLo_storeReg_self]

theorem ptrValue_writeOffset_ptrHiReg (hw : c.ptrW = .w64) :
    ptrValue c (writeOffset c b (regOffset (ptrHiReg p)) v) p = v.toNat * 2 ^ 32 + (ptrLo b p).toNat := by
  rw [ptrValue_of_w64 hw, writeOffset_of_rw64_w64 (regAt_ptrHiReg p) hw, ptrHi_storeReg_self,
    ptrLo_storeReg_of_ne _ _ (ptrLoReg_ne_ptrHiReg p p).symm]

end

/-- Settles O41: each write stores its own half of the pointer and leaves the other. -/
theorem halfWrittenPointerIsTorn : Obligations.HalfWrittenPointerIsTorn := fun s p v _ hw =>
  ⟨fun hNext => ⟨_, step_wrEvent (ptrLoReg_ne_cmd p) hNext, ptrValue_writeOffset_ptrLoReg s.blk p v hw⟩,
    fun hNext => ⟨_, step_wrEvent (ptrHiReg_ne_cmd p) hNext, ptrValue_writeOffset_ptrHiReg s.blk p v hw⟩⟩

end Sys2Proof.Machine
end

section
/-! A run ends unless a bus error stops it (70_reset_and_hazards.md R217, 20_memory.md R65). -/

namespace Sys2Proof.Machine

theorem turnedAway_access_iff {c : Config} {a : Access} :
    turnedAway c (.access a) = true ↔ windowOffset c (accessAddr a) (accessWidth a) = none :=
  decide_eq_true_iff

/-- The port answers exactly the events it does not turn away (20_memory.md R65). -/
theorem exists_serveEvent_eq_next_iff (e : Event) (s : State) :
    (∃ t, serveEvent e s = .next t) ↔ turnedAway s.cfg e = false := by
  rcases serveEvent_fault_or_next e s with ⟨a, rfl, hNone, hFault⟩ | hNext
  · refine iff_of_false ?_ ?_
    · rintro ⟨t, hNext⟩
      exact absurd (hFault.symm.trans hNext) nofun
    · rw [turnedAway_access_iff.mpr hNone]
      decide
  · refine iff_of_true hNext ?_
    obtain ⟨t, hNext⟩ := hNext
    cases e with
    | hwReset => rfl
    | access a =>
      refine Bool.eq_false_iff.mpr fun hAway => ?_
      exact absurd ((serveEvent_of_windowOffset_none (turnedAway_access_iff.mp hAway)).symm.trans hNext) nofun

/-- A run over all pending events ends exactly when the port answers each of them: whether it answers the first depends
on the parameters alone, and the step leaves the parameters and the other events. -/
theorem exists_runAll_eq_next_iff (s : State) :
    (∃ t, runAll s = .next t) ↔ ∀ e ∈ s.pending, turnedAway s.cfg e = false := by
  unfold runAll
  induction hNext : s.pending generalizing s with
  | nil => exact iff_of_true ⟨s, rfl⟩ nofun
  | cons e rest ih =>
    rw [List.forall_mem_cons, ← State.withPending_cfg s rest, ← exists_serveEvent_eq_next_iff, ← step_cons hNext,
      List.length_cons]
    rcases step_fault_or_next s with ⟨a, -, -, -, hFault⟩ | ⟨u, hStep⟩
    · rw [runSteps_succ_fault hFault, hFault]
      exact iff_of_false nofun fun ⟨⟨_, hFirst⟩, _⟩ => nomatch hFirst
    · obtain ⟨hcfg, -⟩ := step_next_cases hStep
      have hRest : u.pending = rest := by rw [step_next_pending hStep, hNext, List.tail_cons]
      rw [runSteps_succ_next hStep, ih u hRest, hcfg, State.withPending_cfg]
      exact (and_iff_right ⟨u, hStep⟩).symm

/-- Settles O45: a run gone right has ended, so the second clause is the first. -/
theorem runsEndUnlessABusErrorStopsThem : Obligations.RunsEndUnlessABusErrorStopsThem := by
  refine ⟨exists_runAll_eq_next_iff, ?_⟩
  rintro s ⟨t, hEnds, -⟩
  exact (exists_runAll_eq_next_iff s).mp ⟨t, hEnds⟩

end Sys2Proof.Machine
end

section
/-! A list read after the TX inputs are loaded again (70_reset_and_hazards.md R212, 10_state.md R50): it reads the
latch, which no input write reaches. -/

namespace Sys2Proof.Machine

/-- The block `TXLOAD c, d, f, q` leaves (30_encoding.md R87). `runSteps_txLoad` ties it to the machine. -/
def Block.loadTx (b : Block) (c d f q : Word) : Block := { b with txCur := c, txDirty := d, txFree := f, txQueued := q }

/-- The four steps of `TXLOAD c, d, f, q` (30_encoding.md R87). -/
theorem runSteps_txLoad {s : State} {c d f q : Word} {rest : List Event}
    (hNext : s.pending = hostOpEvents s.cfg (.txLoad c d f q) ++ rest) :
    runSteps 4 s = .next (((s.withPending rest).withReply .stored).withBlk (s.blk.loadTx c d f q)) := by
  rw [runSteps_succ_next (step_wrEvent (r := .txCur) nofun hNext),
    runSteps_succ_next (step_wrEvent (r := .txDirty) nofun rfl),
    runSteps_succ_next (step_wrEvent (r := .txFree) nofun rfl),
    runSteps_succ_next (step_wrEvent (r := .txQueued) (rest := rest) nofun rfl)]
  rfl

/-- The step of a command that completes (30_encoding.md R80, 60_exceptions.md R170). -/
theorem step_cmdEvent_of_body_ok {s : State} {i : Instr} {b : Block} {rest : List Event} (hi : i ≠ .srst)
    (hRun : s.blk.halt = false) (hBody : bodyOf i s.cfg s.blk = .ok b) (hNext : s.pending = cmdEvent s.cfg i :: rest) :
    step s = .next (((s.withPending rest).withReply .stored).withBlk b) := by
  rw [step_cmdWrite hNext, runWord_of_decode_ok (decode_encode i)]
  exact exec_of_body_ok (s := (s.withPending rest).withReply .stored) hi hRun hBody

/-- A command that completes, and then a read of `RESULT_LO`. -/
theorem runSteps_cmd_readResultLo {s : State} {i : Instr} {b : Block} (hi : i ≠ .srst) (hRun : s.blk.halt = false)
    (hBody : bodyOf i s.cfg s.blk = .ok b) (hNext : s.pending = [cmdEvent s.cfg i, rdEvent s.cfg .resultLo]) :
    runSteps 2 s = .next (((s.withPending []).withReply (.data b.resultLo)).withBlk b) := by
  rw [runSteps_succ_next (step_cmdEvent_of_body_ok hi hRun hBody hNext)]
  exact runSteps_succ_next (step_read (off := regOffset .resultLo) (by decide) (by decide) rfl)

/-- The accesses of `FREE_AT k` and of `INFL_AT k`: `k` to `ARG`, the command, a read of `RESULT_LO` (30_encoding.md
R87). -/
def listReadEvents (c : Config) (i : Instr) (k : Word) : List Event :=
  [wrEvent c .arg k, cmdEvent c i, rdEvent c .resultLo]

theorem hostOpEvents_freeAt (c : Config) (k : Word) : hostOpEvents c (.freeAt k) = listReadEvents c .txFreeAt k := rfl

theorem hostOpEvents_inflAt (c : Config) (k : Word) : hostOpEvents c (.inflAt k) = listReadEvents c .txInflAt k := rfl

/-- The three steps of a list read whose position is in the list: the last answers the entry. -/
theorem runSteps_listRead {s : State} {i : Instr} {k entry : Word} {start len : Nat} (hi : i ≠ .srst)
    (hRun : s.blk.halt = false) (hValid : s.blk.txValid = true)
    (hBody : bodyOf i s.cfg (storeReg s.blk k .arg) = listReadBody start len s.cfg.nTx (storeReg s.blk k .arg))
    (hk : k.toNat < len) (hEntry : entry = BitVec.ofNat 32 (ringEntry start k.toNat s.cfg.nTx))
    (hNext : s.pending = listReadEvents s.cfg i k) :
    runSteps 3 s = .next (((s.withPending []).withReply (.data entry)).withBlk
      ((storeReg s.blk k .arg).storeResult entry 0#32)) := by
  subst hEntry
  have hCmd := hBody.trans (listReadBody_of_lt (b := storeReg s.blk k .arg) hValid hk)
  refine (runSteps_succ_next (step_wrEvent (r := .arg) nofun hNext)).trans ?_
  exact runSteps_cmd_readResultLo hi hRun hCmd rfl

/-- A run of `TXLOAD` and then a list read whose position is in the latched list. -/
theorem runAll_txLoad_listRead {s : State} {i : Instr} {c d f q k : Word} {start len : Nat} (hi : i ≠ .srst)
    (hRun : s.blk.halt = false) (hValid : s.blk.txValid = true)
    (hBody : bodyOf i s.cfg (storeReg (s.blk.loadTx c d f q) k .arg) =
      listReadBody start len s.cfg.nTx (storeReg (s.blk.loadTx c d f q) k .arg))
    (hk : k.toNat < len)
    (hNext : s.pending = hostOpEvents s.cfg (.txLoad c d f q) ++ listReadEvents s.cfg i k) :
    ∃ u : State, runAll s = .next u ∧ u.blk.halt = false ∧ u.blk.txCur = c ∧ u.blk.txRes = s.blk.txRes ∧
      u.reply = .data (BitVec.ofNat 32 ((start + k.toNat) % s.cfg.nTx)) := by
  have hLength : s.pending.length = 4 + 3 := by rw [hNext]; rfl
  have hRead := (runSteps_add 3 (runSteps_txLoad hNext)).trans
    (runSteps_listRead (i := i) hi hRun hValid hBody hk rfl rfl)
  rw [← hLength] at hRead
  exact ⟨_, hRead, hRun, rfl, rfl, rfl⟩

/-- Settles O43: each list read's body looks at the latch and `ARG` only, and the latched list is as long as the good
state's count says. -/
theorem listReadsSurviveAReload : Obligations.ListReadsSurviveAReload := by
  intro s c d f q k hGood hRun hValid
  obtain ⟨hCur, hDirty⟩ := hGood.latch_lt
  obtain ⟨hFree, hInfl⟩ := (hGood.tx_some hValid).lengths
  rw [freeList_length _ hCur hDirty] at hFree
  rw [inflList_length _ hCur hDirty] at hInfl
  refine ⟨fun hk hNext => ?_, fun hk hNext => ?_⟩
  · rw [hostOpEvents_freeAt] at hNext
    exact runAll_txLoad_listRead (i := .txFreeAt) nofun hRun hValid rfl (hFree ▸ hk) hNext
  · rw [hostOpEvents_inflAt] at hNext
    exact runAll_txLoad_listRead (i := .txInflAt) nofun hRun hValid rfl (hInfl ▸ hk) hNext

end Sys2Proof.Machine
end
